-- ==== Sys2Proof/Word.lean ====
section
/-! DEFINITION. The word types of the block (R8, R90), byte sequences of a fixed length (R69) and
the four security modes (R28). -/

namespace Sys2Proof

/-- A byte: a buffer cell, a result code, a device register number. -/
abbrev Byte := BitVec 8

/-- A 16-bit value: an extended-memory address, a status word, a mask. -/
abbrev Half := BitVec 16

/-- A command word (R90). -/
abbrev Word := BitVec 32

/-- A sequence of exactly `n` bytes, the first in time first (R8; R69: `len(data) = n` exactly). -/
structure Bytes (n : Nat) where
  /-- The bytes, index 0 first. -/
  bytes : List Byte
  /-- There are exactly `n` of them. -/
  length_eq : bytes.length = n
deriving DecidableEq, Repr

/-- SecurityMode, in the document's order of enumeration (R28); its register codes are 0 to 3. -/
inductive SecMode where
  | unknown
  | sealed
  | unsealed
  | fullAccess
deriving DecidableEq, Repr

end Sys2Proof
end

