-- ==== Sys2Proof/Syntax.lean ====
section
/-! DEFINITION. The commands (R93), one constructor per row of the opcode table, the operand
formats (R91) and the pseudo-instructions (R99). -/

namespace Sys2Proof

/-- The CCX command set, version 1 (R93). An operand has the width of its field (R90, R92): a range
condition on its value is the command's business, not the syntax's. -/
inductive Instr where
  | nop
  | setaddr (imm : Half)
  | setlen (a : Byte)
  | setmask (imm : Half)
  | setmode (a : Byte)
  | bufwr (a imm : Byte)
  | bufrd (a : Byte)
  | ckclr
  | ckadd (imm : Byte)
  | ckfin
  | ckbuf (a : Byte)
  | xmcomp
  | xmval
  | xmwrite
  | xmread
  | stget
  | stdec (imm : Half)
  | sttest (imm : Half)
  | stseed
deriving DecidableEq, Repr

/-- The five formats of R91: which operand fields a command uses. -/
inductive Format where
  | z | a | i | b | ab
deriving DecidableEq, Repr

/-- The pseudo-instructions of R99. -/
inductive Pseudo where
  /-- `PAYWR i, b`: write payload byte `i`. -/
  | paywr (i : Nat) (b : Byte)
  /-- `PAYRD i`: read data byte `i`. -/
  | payrd (i : Nat)
  /-- `CKSUM b0, …, bk`: the checksum of a byte sequence of any length. -/
  | cksum (bs : List Byte)
  /-- `WAITINIT`: one poll for "init complete". -/
  | waitinit
deriving DecidableEq, Repr

end Sys2Proof
end

