-- ==== Sys2Proof/WellFormed.lean ====
section
/-! DEFINITION. Well-formedness of commands (R92) and of pseudo-instructions (R99). -/

namespace Sys2Proof

/-- Every command term is well formed: each operand has exactly its field's width by its type, and
R92 says that a range condition on an operand value is no part of the encoding (`BUFWR 36` is a
command, which ends with InvalidArgument). -/
def Instr.wellFormed : Instr → Bool
  | .nop => true
  | .setaddr _ => true
  | .setlen _ => true
  | .setmask _ => true
  | .setmode _ => true
  | .bufwr _ _ => true
  | .bufrd _ => true
  | .ckclr => true
  | .ckadd _ => true
  | .ckfin => true
  | .ckbuf _ => true
  | .xmcomp => true
  | .xmval => true
  | .xmwrite => true
  | .xmread => true
  | .stget => true
  | .stdec _ => true
  | .sttest _ => true
  | .stseed => true

/-- R99: the payload index of PAYWR and PAYRD is 0 to 31. Of PAYWR the rule says that "the assembler rejects
`i > 31`"; of PAYRD it gives the range and no rejection, and that the model rejects a greater index there too
is a DESIGN CHOICE (assumption 5). -/
def Pseudo.wellFormed : Pseudo → Bool
  | .paywr i _ => decide (i ≤ 31)
  | .payrd i => decide (i ≤ 31)
  | .cksum _ => true
  | .waitinit => true

end Sys2Proof
end

