-- ==== Sys2Proof/Decode.lean ====
section
/-! DEFINITION. The command word: its fields (R90), the formats' masks (R91), the decoder (R92 to
R95), the encoder written from the same table, and the expansion of the pseudo-instructions (R99). -/

namespace Sys2Proof

/-- Bits 31:24, the opcode (R90). -/
def opField (w : Word) : Byte := w.extractLsb' 24 8

/-- Bits 23:16, the operand `a` (R90, R92: unsigned, neither extended nor scaled). -/
def aField (w : Word) : Byte := w.extractLsb' 16 8

/-- Bits 15:0, the immediate (R90, R92). -/
def immField (w : Word) : Half := w.extractLsb' 0 16

/-- Bits 7:0, the byte of the formats B and AB (R90, R92). -/
def imm8Field (w : Word) : Byte := w.extractLsb' 0 8

/-- The mask column of R91: the bits that must equal the command's `match` value. -/
def Format.mask : Format → Word
  | .z => 0xFFFFFFFF#32
  | .a => 0xFF00FFFF#32
  | .i => 0xFFFF0000#32
  | .b => 0xFFFFFF00#32
  | .ab => 0xFF00FF00#32

/-- Why a word is illegal (R94). Both end alike, with IllegalCommand. -/
inductive DecodeError where
  /-- `op` is none of the nineteen opcodes (R95). -/
  | reservedOpcode
  /-- A field that the command's format requires to be zero is not zero (R91). -/
  | nonzeroField
deriving DecidableEq, Repr

/-- A word from its three fields (R90). -/
def pack (op a : Byte) (imm : Half) : Word := op ++ a ++ imm

/-- A row of the opcode map (R93): opcode, format, and the command of a word's operand fields. -/
structure CommandRow where
  op : Byte
  format : Format
  command : Word → Instr

/-- The row's `match`: "the word with every operand field zero" (R93). -/
def CommandRow.pattern (r : CommandRow) : Word := pack r.op 0x00#8 0x0000#16

/-- The opcode map of R93, row by row. -/
def commandTable : List CommandRow :=
  [⟨0x00#8, .z, fun _ => .nop⟩,
    ⟨0x01#8, .i, fun w => .setaddr (immField w)⟩,
    ⟨0x02#8, .a, fun w => .setlen (aField w)⟩,
    ⟨0x03#8, .i, fun w => .setmask (immField w)⟩,
    ⟨0x04#8, .a, fun w => .setmode (aField w)⟩,
    ⟨0x08#8, .ab, fun w => .bufwr (aField w) (imm8Field w)⟩,
    ⟨0x09#8, .a, fun w => .bufrd (aField w)⟩,
    ⟨0x10#8, .z, fun _ => .ckclr⟩,
    ⟨0x11#8, .b, fun w => .ckadd (imm8Field w)⟩,
    ⟨0x12#8, .z, fun _ => .ckfin⟩,
    ⟨0x13#8, .a, fun w => .ckbuf (aField w)⟩,
    ⟨0x20#8, .z, fun _ => .xmcomp⟩,
    ⟨0x21#8, .z, fun _ => .xmval⟩,
    ⟨0x22#8, .z, fun _ => .xmwrite⟩,
    ⟨0x23#8, .z, fun _ => .xmread⟩,
    ⟨0x30#8, .z, fun _ => .stget⟩,
    ⟨0x31#8, .i, fun w => .stdec (immField w)⟩,
    ⟨0x32#8, .i, fun w => .sttest (immField w)⟩,
    ⟨0x33#8, .z, fun _ => .stseed⟩]

/-- The decoder of R93: take `op`, find the row, check `(w & mask) == match`. It is total: every word is one
command or illegal (R94). No state bears on it (R96). -/
def decode (w : Word) : Except DecodeError Instr :=
  match commandTable.find? fun r => decide (r.op = opField w) with
  | none => .error .reservedOpcode
  | some r => if w &&& r.format.mask = r.pattern then .ok (r.command w) else .error .nonzeroField

/-- The instruction read from a table row's word (the host's interface; the table numbers the bits
as R90 does). Every row has 32 bits; a bit at or above `nbits` is zero. -/
def decodeTableWord (nbits w : Nat) : Option Instr :=
  (decode (BitVec.ofNat 32 (w % 2 ^ nbits))).toOption

/-- The word of a command (R91, R93): its opcode, its operands, every unused field zero. -/
def encode : Instr → Word
  | .nop => pack 0x00#8 0#8 0#16
  | .setaddr imm => pack 0x01#8 0#8 imm
  | .setlen a => pack 0x02#8 a 0#16
  | .setmask imm => pack 0x03#8 0#8 imm
  | .setmode a => pack 0x04#8 a 0#16
  | .bufwr a imm => pack 0x08#8 a (imm.setWidth 16)
  | .bufrd a => pack 0x09#8 a 0#16
  | .ckclr => pack 0x10#8 0#8 0#16
  | .ckadd imm => pack 0x11#8 0#8 (imm.setWidth 16)
  | .ckfin => pack 0x12#8 0#8 0#16
  | .ckbuf a => pack 0x13#8 a 0#16
  | .xmcomp => pack 0x20#8 0#8 0#16
  | .xmval => pack 0x21#8 0#8 0#16
  | .xmwrite => pack 0x22#8 0#8 0#16
  | .xmread => pack 0x23#8 0#8 0#16
  | .stget => pack 0x30#8 0#8 0#16
  | .stdec imm => pack 0x31#8 0#8 imm
  | .sttest imm => pack 0x32#8 0#8 imm
  | .stseed => pack 0x33#8 0#8 0#16

/-- R99: the commands a pseudo-instruction stands for, in order. -/
def Pseudo.expand : Pseudo → List Instr
  | .paywr i b => [.bufwr (BitVec.ofNat 8 (i + 2)) b]
  | .payrd i => [.bufrd (BitVec.ofNat 8 (i + 2))]
  | .cksum bs => .ckclr :: bs.map .ckadd ++ [.ckfin]
  | .waitinit => [.setmask 0x0080#16, .stget, .sttest 0x0080#16]

end Sys2Proof
end

