-- ==== Sys2Proof/Config.lean ====
section
/-! DEFINITION. The open parameters of the spec (R7, `92_eei_decisions.md` D9, D11, D12) and the
free values (U1), as opaque constants without a body: no proof can see what they are, so a theorem
holds for every choice of them. None is state; no command and no reset changes one (R38). -/

namespace Sys2Proof.Config

/-- REG_CONTROL: the device register the status word is read from (R7, U6). Unconstrained. -/
opaque regControl : Byte

/-- REG_MAC: the device register of the frame head and of the read frame (R7, U6). Unconstrained. -/
opaque regMac : Byte

/-- REG_MAC_SUM: the device register of the checksum/length pair (R7, U6). Unconstrained; in
particular nothing relates it to REG_MAC. -/
opaque regMacSum : Byte

/-- T_SETTLE less one, in a unit the spec does not name: R7 asks only that T_SETTLE be greater than
zero (U7). `Machine.tSettle` is the delay itself. -/
opaque tSettlePred : Nat

/-- Which of the 24 admissible functions SEC_DECODE is (R7, D9, U4): Sealed, Unsealed, FullAccess
and Unknown have exactly one 2-bit code each, in one of 24 ways. `Machine.secDecodeOf` lists them. -/
opaque secDecodeIndex : Fin 24

/-- FREE VALUE (U1, R35, R39): the byte that BUF[i] holds at reset, arbitrary but fixed for the run. -/
opaque bufReset : Nat → Byte

/-- FREE VALUE: what the model's total buffer read answers at an index the buffer does not list.
No state of the machine lacks one of its 36 bytes and no command reads past them (R61), so this is
read only in ill-formed states, about which it says nothing. -/
opaque absentByte : Nat → Byte

end Sys2Proof.Config
end

