-- ==== Sys2Proof/Machine/State.lean ====
section
/-! DEFINITION. The state of the block (R20 to R39), the events of its three ports with their answers
(R68 to R73), the result kinds (R170), the reasons a step could stop, and the reset state. -/

namespace Sys2Proof.Machine

/-- The result kinds, in the order of their codes 0x00 to 0x0A (R170). -/
inductive ResultKind where
  | ok
  | ioError
  | invalidArgument
  | securityUnknown
  | securityTransitionFailed
  | addressMismatch
  | checksumMismatch
  | writeRejected
  | timeout
  | deviceIdentityMismatch
  | illegalCommand
deriving DecidableEq, Repr

/-- The sequencer phase PH (R33); its numeric coding is not specified. -/
inductive Phase where
  | idle
  | wSec
  | wFrame
  | wDly1
  | wSum
  | wDly2
  | wStat
  | rSec
  | rAddr
  | rFrame
  | rVal
  | xRest
deriving DecidableEq, Repr

/-- The Transport's answer to a TW event (R68). -/
inductive TwAnswer where
  | ok
  | ioError
deriving DecidableEq, Repr

/-- The Transport's answer to a TR event of `n` bytes: exactly `n` bytes, or IoError (R69, R70). -/
inductive TrAnswer (n : Nat) where
  | ok (data : Bytes n)
  | ioError
deriving DecidableEq, Repr

/-- A code of the security port: 8 bits, not 0x00 (R72). -/
structure ErrCode where
  code : Byte
  nonzero : code ≠ 0#8
deriving DecidableEq, Repr

/-- The Security State Machine's answer to a SECREQ event (R72). -/
inductive SecAnswer where
  | ok
  | err (c : ErrCode)
deriving DecidableEq, Repr

/-- An entry of the event history: an event together with the answer it got (R73). -/
inductive Event where
  /-- `TW(reg, bytes)` (R68). -/
  | tw (reg : Byte) (bytes : List Byte) (answer : TwAnswer)
  /-- `TR(reg, wbytes, n)` (R69). -/
  | tr (reg : Byte) (wbytes : List Byte) (n : Nat) (answer : TrAnswer n)
  /-- `SLEEP(d)`; it has no answer value (R71). -/
  | sleep (d : Nat)
  /-- `SECREQ(m)` (R72). -/
  | secreq (m : SecMode) (answer : SecAnswer)
deriving DecidableEq, Repr

/-- The reasons the machine could stop with a fault. There is none: "There is no trap vector and no
stuck state of the engine's own" (R10); an error is a completed command with a nonzero RES (R175),
and an engine without its answer waits (R203). Nobody raises a fault. -/
inductive Fault where
deriving DecidableEq, Repr

/-- The reasons a meaning could be refused. -/
inductive Refusal where
  /-- Raised by an arm of `exec` whose command has no meaning yet; safe, since the machine then does
  nothing. No arm of this model raises it. -/
  | notModelled (mnemonic : String)
deriving DecidableEq, Repr

/-- The state of the block. -/
structure State where
  /-- ADDR (R21). -/
  addr : Half
  /-- LEN (R22). -/
  len : Byte
  /-- MASK (R23). -/
  mask : Half
  /-- OUT (R24). -/
  out : Half
  /-- ACC (R25). -/
  acc : Byte
  /-- CSUM (R26). -/
  csum : Byte
  /-- STAT (R27). -/
  stat : Half
  /-- SECMODE (R28). -/
  secmode : SecMode
  /-- RES (R29). -/
  res : Byte
  /-- RERR (R30). -/
  rerr : Byte
  /-- RLEN (R31). -/
  rlen : Byte
  /-- FLAGS (R32): bit 0 is M, bit 1 is LENBAD. -/
  flags : BitVec 2
  /-- BUF (R35), as (index, byte) cells: the indices 0 to 35 in order, each once (`bufWf`). -/
  buf : List Host.Cell
  /-- PH (R33). -/
  ph : Phase
  /-- ORIG (R34). -/
  orig : SecMode
  /-- CHG (R34). -/
  chg : Bool
  /-- E (R34). -/
  e : Byte
  /-- The event history, oldest first (R73). -/
  history : List Event
  /-- MODEL'S OWN (assumption 3): the words the host has still to have accepted; the first is the
  one it presents (R98). -/
  hostWords : List Word
  /-- MODEL'S OWN (assumption 4): the answers to come to TW events (R68). -/
  twIn : List TwAnswer
  /-- MODEL'S OWN (assumption 4): the answers to come to `TR(REG_CONTROL, [], 2)` (R69). -/
  statusIn : List (TrAnswer 2)
  /-- MODEL'S OWN (assumption 4): the answers to come to `TR(REG_MAC, [], 36)` (R69). -/
  frameIn : List (TrAnswer 36)
  /-- MODEL'S OWN (assumption 4): how many SLEEP events will return (R71). -/
  sleepIn : Nat
  /-- MODEL'S OWN (assumption 4): the answers to come to SECREQ events (R72). -/
  secIn : List SecAnswer
deriving DecidableEq, Repr

/-- The canonical form of the buffer: exactly the indices 0 to 35, strictly rising (R35, R61). An
index it does not list does not exist. Two buffers of this form that read alike are equal. -/
def bufWf (b : List Host.Cell) : Bool := decide (b.map Prod.fst = List.range 36)

/-- The block right after reset (R39, R190): SECMODE = Unknown, every other register zero, PH =
IDLE, an arbitrary byte in each buffer cell, an empty history. The host presents nothing and the
environment has answered nothing: DESIGN CHOICE, assumptions 3 and 4. -/
def State.reset : State where
  addr := 0x0000#16
  len := 0x00#8
  mask := 0x0000#16
  out := 0x0000#16
  acc := 0x00#8
  csum := 0x00#8
  stat := 0x0000#16
  secmode := .unknown
  res := 0x00#8
  rerr := 0x00#8
  rlen := 0x00#8
  flags := 0b00#2
  buf := (List.range 36).map fun i => (i, Config.bufReset i)
  ph := .idle
  orig := .unknown
  chg := false
  e := 0x00#8
  history := []
  hostWords := []
  twIn := []
  statusIn := []
  frameIn := []
  sleepIn := 0
  secIn := []

end Sys2Proof.Machine
end

