-- ==== Sys2Proof/Machine/Ops.lean ====
section
/-! DEFINITION. The named operations over the state: one update per field, the frame buffer (R35, R61),
the three environment ports (R68 to R73), and how a command ends, well or with an error (R175 to R177). -/

namespace Sys2Proof.Machine

/-! ### One update per field -/

def State.setAddr (s : State) (v : Half) : State := { s with addr := v }
def State.setLen (s : State) (v : Byte) : State := { s with len := v }
def State.setMask (s : State) (v : Half) : State := { s with mask := v }
def State.setOut (s : State) (v : Half) : State := { s with out := v }
def State.setAcc (s : State) (v : Byte) : State := { s with acc := v }
def State.setCsum (s : State) (v : Byte) : State := { s with csum := v }
def State.setStat (s : State) (v : Half) : State := { s with stat := v }
def State.setSecmode (s : State) (v : SecMode) : State := { s with secmode := v }
def State.setRes (s : State) (v : Byte) : State := { s with res := v }
def State.setRerr (s : State) (v : Byte) : State := { s with rerr := v }
def State.setRlen (s : State) (v : Byte) : State := { s with rlen := v }
def State.setFlags (s : State) (v : BitVec 2) : State := { s with flags := v }
def State.setBuf (s : State) (v : List Host.Cell) : State := { s with buf := v }
def State.setPh (s : State) (v : Phase) : State := { s with ph := v }
def State.setOrig (s : State) (v : SecMode) : State := { s with orig := v }
def State.setChg (s : State) (v : Bool) : State := { s with chg := v }
def State.setE (s : State) (v : Byte) : State := { s with e := v }
def State.setHistory (s : State) (v : List Event) : State := { s with history := v }
def State.setHostWords (s : State) (v : List Word) : State := { s with hostWords := v }
def State.setTwIn (s : State) (v : List TwAnswer) : State := { s with twIn := v }
def State.setStatusIn (s : State) (v : List (TrAnswer 2)) : State := { s with statusIn := v }
def State.setFrameIn (s : State) (v : List (TrAnswer 36)) : State := { s with frameIn := v }
def State.setSleepIn (s : State) (v : Nat) : State := { s with sleepIn := v }
def State.setSecIn (s : State) (v : List SecAnswer) : State := { s with secIn := v }

/-! ### The frame buffer -/

/-- The byte listed at index `i`, if there is one. -/
def cellAt : List Host.Cell → Nat → Option Byte
  | [], _ => none
  | c :: rest, i => if c.1 = i then some c.2 else cellAt rest i

/-- The byte at index `i`. An index that the buffer does not list does not exist (R61); no command
reads one, and this total function answers a free value there. -/
def cellRead (b : List Host.Cell) (i : Nat) : Byte := (cellAt b i).getD (Config.absentByte i)

/-- Store `v` at index `i`, keeping the indices strictly rising. -/
def cellWrite : List Host.Cell → Nat → Byte → List Host.Cell
  | [], i, v => [(i, v)]
  | c :: rest, i, v =>
    if i < c.1 then (i, v) :: c :: rest
    else if i = c.1 then (i, v) :: rest
    else c :: cellWrite rest i v

/-- A buffer that holds the bytes `bs` from index 0 on. -/
def cellsOf (bs : List Byte) : List Host.Cell := (List.range bs.length).zip bs

/-- `BUF[i]` (R9). -/
def State.bufByte (s : State) (i : Nat) : Byte := cellRead s.buf i

/-- `BUF[0 .. n-1]`, the empty sequence when `n = 0` (R8, R9). -/
def State.bufBytes (s : State) (n : Nat) : List Byte := (List.range n).map s.bufByte

/-- `BUF[i] <- v` (R9); one byte, no alignment (R67). -/
def State.setBufByte (s : State) (i : Nat) (v : Byte) : State := s.setBuf (cellWrite s.buf i v)

/-- `BUF[i] <- data[i] for i = 0 .. 35`: the whole buffer replaced at once (R151). -/
def State.loadBuf (s : State) (data : Bytes 36) : State := s.setBuf (cellsOf data.bytes)

/-! ### The environment ports

Each `ask` is one event: it takes the port's next answer and appends the event with it to the history
(R73). It is `none` when the environment has given no answer: the engine then waits, and no step lets
it move on (R203, U18). -/

/-- Append one entry to the event history; nothing is ever removed (R73). -/
def State.logEvent (s : State) (ev : Event) : State := s.setHistory (s.history ++ [ev])

/-- `TW(reg, bytes)` (R68). -/
def State.askTw (s : State) (reg : Byte) (bytes : List Byte) : Option (TwAnswer × State) :=
  match s.twIn with
  | [] => none
  | ans :: rest => some (ans, (s.setTwIn rest).logEvent (.tw reg bytes ans))

/-- `TR(REG_CONTROL, [], 2)`, the status read (R69). -/
def State.askStatus (s : State) : Option (TrAnswer 2 × State) :=
  match s.statusIn with
  | [] => none
  | ans :: rest => some (ans, (s.setStatusIn rest).logEvent (.tr Config.regControl [] 2 ans))

/-- `TR(REG_MAC, [], 36)`, the frame read (R69). -/
def State.askFrame (s : State) : Option (TrAnswer 36 × State) :=
  match s.frameIn with
  | [] => none
  | ans :: rest => some (ans, (s.setFrameIn rest).logEvent (.tr Config.regMac [] 36 ans))

/-- `SLEEP(d)` (R71): it has no answer value and cannot fail, but it may never return (R203). -/
def State.askSleep (s : State) (d : Nat) : Option State :=
  match s.sleepIn with
  | 0 => none
  | n + 1 => some ((s.setSleepIn n).logEvent (.sleep d))

/-- `SECREQ(m)` (R72). What an `ok` writes to SECMODE is the phase's business. -/
def State.askSec (s : State) (m : SecMode) : Option (SecAnswer × State) :=
  match s.secIn with
  | [] => none
  | ans :: rest => some (ans, (s.setSecIn rest).logEvent (.secreq m ans))

/-! ### The command port and the end of a command -/

/-- The result codes (R170). -/
def ResultKind.code : ResultKind → Byte
  | .ok => 0x00#8
  | .ioError => 0x01#8
  | .invalidArgument => 0x02#8
  | .securityUnknown => 0x03#8
  | .securityTransitionFailed => 0x04#8
  | .addressMismatch => 0x05#8
  | .checksumMismatch => 0x06#8
  | .writeRejected => 0x07#8
  | .timeout => 0x08#8
  | .deviceIdentityMismatch => 0x09#8
  | .illegalCommand => 0x0A#8

/-- `ready = (PH == IDLE)` (R36, R98). -/
def State.ready (s : State) : Bool := decide (s.ph = .idle)

/-- The word at the command port, if the host presents one (R98). -/
def State.presented (s : State) : Option Word := s.hostWords.head?

/-- Acceptance: the presented word is taken, and the host's next word comes to the port (R98). -/
def State.accept (s : State) : State := s.setHostWords s.hostWords.tail

/-- Put a word at the ready command port, in the place of the one presented there. -/
def State.presentWord (s : State) (w : Word) : State :=
  (s.setPh .idle).setHostWords (w :: s.hostWords.tail)

/-- The end of an accepted single-step command with result code `k`: the word is taken and RES
written, the command's last action (R29, R110). -/
def State.endCommand (s : State) (k : ResultKind) : State := s.accept.setRes k.code

/-- The ordinary end, RES = OK. -/
def State.succeed (s : State) : State := s.endCommand .ok

/-- `raise k`: taking an exception in a single-step command or at the entry of a transfer (R9, R141,
R175). RES gets the code and nothing else is saved (R171); the block is ready for the next command, so
there is no return from it (R177). -/
def State.raise (s : State) (k : ResultKind) : State := s.endCommand k

/-- A transfer leaves its body with result `k`: E keeps the code, control goes to X_REST (R143 to R152).
With an error this is the abort path of R176; with `ok` the body has succeeded. -/
def State.leaveBody (s : State) (k : ResultKind) : State := (s.setE k.code).setPh .xRest

/-- The end of a transfer, with code `c` in RES (R142, R155). Its word was taken at its entry. -/
def State.endTransfer (s : State) (c : Byte) : State := (s.setRes c).setPh .idle

end Sys2Proof.Machine
end

