-- ==== Sys2Proof/Machine/Operands.lean ====
section
/-! DEFINITION. What the commands read: the constants of R6, the parameters of R7, the argument check
(R132), the bytes of ADDR (R64), the status word and its views (R36, R65, R160), the mode coding (R28)
and the checksum function (R120). -/

namespace Sys2Proof.Machine

/-! ### Constants of the block (R6) -/

abbrev xmLo : Nat := 0x4000
abbrev xmHi : Nat := 0x43FF
abbrev payMin : Nat := 1
abbrev payMax : Nat := 32
abbrev frameLen : Nat := 36
abbrev lenOverhead : Nat := 4

/-- T_SETTLE (R7): greater than zero, otherwise open. -/
def tSettle : Nat := Config.tSettlePred + 1

/-! ### Frame operands -/

/-- The argument check ARGCHK (R132): does it pass? Only the start address is checked (R63). -/
def State.argsOk (s : State) : Bool :=
  decide (xmLo ≤ s.addr.toNat ∧ s.addr.toNat ≤ xmHi) &&
    decide (payMin ≤ s.len.toNat ∧ s.len.toNat ≤ payMax)

/-- ADDR[7:0], the byte that travels first (R64). -/
def State.addrLo (s : State) : Byte := s.addr.extractLsb' 0 8

/-- ADDR[15:8] (R64). -/
def State.addrHi (s : State) : Byte := s.addr.extractLsb' 8 8

/-- The frame head BUF[0 .. LEN+1]: address and payload, `LEN + 2` bytes (R121, R130). -/
def State.frameHead (s : State) : List Byte := s.bufBytes (s.len.toNat + 2)

/-- The length byte of a write frame, payload length + 4 (R130, R137). -/
def State.lengthByte (s : State) : Byte := BitVec.ofNat 8 (s.len.toNat + lenOverhead)

/-! ### The checksum (R120) -/

/-- The sum of the bytes modulo 256; 0 for the empty sequence. Carries out of bit 7 are lost (R126). -/
def sumBytes (bs : List Byte) : Byte := BitVec.ofNat 8 ((bs.map BitVec.toNat).sum % 256)

/-- `checksum(s) = 0xFF - sum` (R120). -/
def checksum (bs : List Byte) : Byte := 0xFF#8 - sumBytes bs

/-! ### The status word -/

/-- The little-endian status word of two received bytes: the first is the low byte (R65). -/
def statusWord (data : Bytes 2) : Half := data.bytes.getD 1 0#8 ++ data.bytes.getD 0 0#8

/-- RUN = STAT[0] (R36, R160). -/
def State.statRun (s : State) : Bool := s.stat.getLsbD 0

/-- INIT = STAT[7] (R36, R160). -/
def State.statInit (s : State) : Bool := s.stat.getLsbD 7

/-- SEC = STAT[14:13], bit 14 high (R36, R160). -/
def State.statSec (s : State) : BitVec 2 := s.stat.extractLsb' 13 2

/-- XMFAIL = STAT[15] (R36, R160). -/
def State.statXmfail (s : State) : Bool := s.stat.getLsbD 15

/-! ### The security mode -/

/-- The register code of a mode (R28). -/
def modeCode : SecMode → BitVec 2
  | .unknown => 0#2
  | .sealed => 1#2
  | .unsealed => 2#2
  | .fullAccess => 3#2

/-- The mode of a SETMODE operand: codes 1 to 3; 0 is never a target and codes above 3 name no mode
(R115). -/
def modeOfOperand (a : Byte) : Option SecMode :=
  if a = 1#8 then some .sealed
  else if a = 2#8 then some .unsealed
  else if a = 3#8 then some .fullAccess
  else none

/-- The `k`-th of the 24 functions R7 admits for SEC_DECODE: the mode of code 0 is picked among four,
that of code 1 among the three left, that of code 2 among two, and code 3 has the last. -/
def secDecodeOf (k : Fin 24) (c : BitVec 2) : SecMode :=
  let four : List SecMode := [.unknown, .sealed, .unsealed, .fullAccess]
  let three := four.eraseIdx (k.val / 6)
  let two := three.eraseIdx (k.val % 6 / 2)
  let one := two.eraseIdx (k.val % 2)
  match c.toNat with
  | 0 => four.getD (k.val / 6) .unknown
  | 1 => three.getD (k.val % 6 / 2) .unknown
  | 2 => two.getD (k.val % 2) .unknown
  | _ => one.getD 0 .unknown

/-- SEC_DECODE (R7, R160), an open parameter: the meaning of the status bits 14:13. -/
def secDecode (c : BitVec 2) : SecMode := secDecodeOf Config.secDecodeIndex c

/-- SECDEC = SEC_DECODE(STAT[14:13]) (R36, R160). -/
def State.secdec (s : State) : SecMode := secDecode s.statSec

end Sys2Proof.Machine
end

