-- ==== Sys2Proof/Machine/Flags.lean ====
section
/-! DEFINITION. The flags (R32): bit 0 of FLAGS is M, bit 1 is LENBAD, each written without the other.
No other flag exists: the checksum records nothing of its carries (R32, R126). -/

namespace Sys2Proof.Machine

/-- The 2-bit FLAGS value of the two flags. -/
def flagsOf (lenbad m : Bool) : BitVec 2 := BitVec.ofBool lenbad ++ BitVec.ofBool m

/-- FLAGS.M (R32). -/
def State.flagM (s : State) : Bool := s.flags.getLsbD 0

/-- FLAGS.LENBAD (R32). -/
def State.flagLenbad (s : State) : Bool := s.flags.getLsbD 1

/-- `FLAGS.M <- v`; LENBAD stays. -/
def State.setM (s : State) (v : Bool) : State := s.setFlags (flagsOf s.flagLenbad v)

/-- `FLAGS.LENBAD <- v`; M stays. -/
def State.setLenbad (s : State) (v : Bool) : State := s.setFlags (flagsOf v s.flagM)

/-- The masked status compare `(STAT & MASK) == expected`: the AND binds before the equality (R163). -/
def State.statusMatches (s : State) (expected : Half) : Bool := decide (s.stat &&& s.mask = expected)

end Sys2Proof.Machine
end

