-- ==== Sys2Proof/Machine/Checksum.lean ====
section
/-! DEFINITION. The checksum commands (`41_checksum.md`): CKCLR, CKADD, CKFIN, CKBUF. -/

namespace Sys2Proof.Machine

/-- CSUM <- c; OUT <- zext_16(CSUM): how CKFIN and CKBUF deliver a checksum (R124, R125). -/
def State.deliver (s : State) (c : Byte) : State := (s.setCsum c).setOut (c.setWidth 16)

/-- CKCLR (R122): CSUM and OUT keep their values. -/
def execCkclr (s : State) : Host.Outcome State Fault Refusal := .next (s.setAcc 0x00#8).succeed

/-- CKADD (R123): the 8-bit sum wraps and its carry is lost. -/
def execCkadd (imm : Byte) (s : State) : Host.Outcome State Fault Refusal :=
  .next (s.setAcc (s.acc + imm)).succeed

/-- CKFIN (R124): ACC is not cleared. -/
def execCkfin (s : State) : Host.Outcome State Fault Refusal :=
  .next (s.deliver (0xFF#8 - s.acc)).succeed

/-- CKBUF (R125): the checksum of BUF[0 .. a-1]; InvalidArgument for a count above 36. ACC is neither
read nor written. -/
def execCkbuf (a : Byte) (s : State) : Host.Outcome State Fault Refusal :=
  if frameLen < a.toNat then .next (s.raise .invalidArgument)
  else .next (s.deliver (checksum (s.bufBytes a.toNat))).succeed

end Sys2Proof.Machine
end

