-- ==== Sys2Proof/Machine/Frame.lean ====
section
/-! DEFINITION. Composition and validation of extended-memory frames (`42_xm_frame.md`): the two halves of
composing that XMCOMP and XMWRITE share, the validation VAL that XMVAL and XMREAD share, XMCOMP, XMVAL. -/

namespace Sys2Proof.Machine

/-- BUF[0], BUF[1] <- the address, low byte first (R133, R143). -/
def State.stampAddress (s : State) : State :=
  (s.setBufByte 0 s.addrLo).setBufByte 1 s.addrHi

/-- CSUM <- checksum(BUF[0 .. LEN+1]); BUF[34] <- CSUM; BUF[35] <- LEN + 4 (R133, R145). -/
def State.stampTrailer (s : State) : State :=
  let c := checksum s.frameHead
  ((s.setCsum c).setBufByte 34 c).setBufByte 35 s.lengthByte

/-- The frame validation VAL (R134): its result, and the state with CSUM, RLEN and LENBAD as its steps
left them. It does not write RES. The covered range is the first `L - 2` bytes (R121). -/
def State.validate (s : State) : ResultKind × State :=
  if s.bufByte 0 ≠ s.addrLo ∨ s.bufByte 1 ≠ s.addrHi then (.addressMismatch, s)
  else if (s.bufByte 35).toNat < 5 ∨ 36 < (s.bufByte 35).toNat then
    (.checksumMismatch, s.setLenbad true)
  else
    let c := checksum (s.bufBytes ((s.bufByte 35).toNat - 2))
    if c ≠ s.bufByte 34 then (.checksumMismatch, s.setCsum c)
    else (.ok, (s.setCsum c).setRlen
      (BitVec.ofNat 8 (min ((s.bufByte 35).toNat - lenOverhead) s.len.toNat)))

/-- RLEN <- 0; LENBAD <- 0: the first action of XMVAL and XMREAD (R31, R135, R141). -/
def State.clearResult (s : State) : State := (s.setRlen 0x00#8).setLenbad false

/-- XMCOMP (R133): SECMODE is not read, ACC and OUT are not written, no event. -/
def execXmcomp (s : State) : Host.Outcome State Fault Refusal :=
  if s.argsOk then .next s.stampAddress.stampTrailer.succeed
  else .next (s.raise .invalidArgument)

/-- XMVAL (R135): the buffer is never written, SECMODE is not read, no event. -/
def execXmval (s : State) : Host.Outcome State Fault Refusal :=
  if s.argsOk then .next (s.clearResult.validate.2.endCommand s.clearResult.validate.1)
  else .next (s.clearResult.raise .invalidArgument)

end Sys2Proof.Machine
end

