-- ==== Sys2Proof/Machine/Moves.lean ====
section
/-! DEFINITION. The operand and buffer commands (`40_operand_moves.md`): NOP, SETADDR, SETLEN, SETMASK,
SETMODE, BUFWR, BUFRD. -/

namespace Sys2Proof.Machine

/-- NOP (R111): RES <- OK and nothing else. -/
def execNop (s : State) : Host.Outcome State Fault Refusal := .next s.succeed

/-- SETADDR (R112): any 16-bit value; the range is checked where ADDR is used. -/
def execSetaddr (imm : Half) (s : State) : Host.Outcome State Fault Refusal :=
  .next (s.setAddr imm).succeed

/-- SETLEN (R113): any 8-bit value; the range is checked where LEN is used. -/
def execSetlen (a : Byte) (s : State) : Host.Outcome State Fault Refusal :=
  .next (s.setLen a).succeed

/-- SETMASK (R114): M is not recomputed. -/
def execSetmask (imm : Half) (s : State) : Host.Outcome State Fault Refusal :=
  .next (s.setMask imm).succeed

/-- SETMODE (R115): codes 1 to 3 are recorded in SECMODE, any other ends with InvalidArgument. -/
def execSetmode (a : Byte) (s : State) : Host.Outcome State Fault Refusal :=
  match modeOfOperand a with
  | some m => .next (s.setSecmode m).succeed
  | none => .next (s.raise .invalidArgument)

/-- BUFWR (R116): a byte into BUF[a], InvalidArgument for an index above 35. -/
def execBufwr (a imm : Byte) (s : State) : Host.Outcome State Fault Refusal :=
  if frameLen ≤ a.toNat then .next (s.raise .invalidArgument)
  else .next (s.setBufByte a.toNat imm).succeed

/-- BUFRD (R117): BUF[a], zero-extended, into OUT; InvalidArgument for an index above 35. -/
def execBufrd (a : Byte) (s : State) : Host.Outcome State Fault Refusal :=
  if frameLen ≤ a.toNat then .next (s.raise .invalidArgument)
  else .next (s.setOut ((s.bufByte a.toNat).setWidth 16)).succeed

end Sys2Proof.Machine
end

