-- ==== Sys2Proof/Machine/Status.lean ====
section
/-! DEFINITION. The status commands (`44_status.md`): STGET, STDEC, STTEST, STSEED. -/

namespace Sys2Proof.Machine

/-- STGET (R161): one status read. While the Transport has not answered, the command does not complete:
its word stays at the port and the state as it is (R203). It acts on no bit of the word. -/
def execStget (s : State) : Host.Outcome State Fault Refusal :=
  match s.askStatus with
  | none => .next s
  | some (.ok data, t) => .next (t.setStat (statusWord data)).succeed
  | some (.ioError, t) => .next (t.raise .ioError)

/-- STDEC (R162): the decoder's views then show the host's value. -/
def execStdec (imm : Half) (s : State) : Host.Outcome State Fault Refusal :=
  .next (s.setStat imm).succeed

/-- STTEST (R163): a failed compare is M = 0, not an error. -/
def execSttest (imm : Half) (s : State) : Host.Outcome State Fault Refusal :=
  .next (s.setM (s.statusMatches imm)).succeed

/-- SECMODE <- m, with SecurityUnknown when `m` is Unknown (R164). -/
def State.seed (s : State) (m : SecMode) : State :=
  if m = .unknown then (s.setSecmode m).raise .securityUnknown else (s.setSecmode m).succeed

/-- STSEED (R164): the mode of the STAT that stands, through SEC_DECODE. -/
def execStseed (s : State) : Host.Outcome State Fault Refusal := .next (s.seed s.secdec)

end Sys2Proof.Machine
end

