-- ==== Sys2Proof/Machine/Transfer.lean ====
section
/-! DEFINITION. The extended-memory transfers (`43_xm_transfer.md`): the entry of XMWRITE and XMREAD and
the phases, one step of the engine each. A phase whose event has no answer yet leaves the state as it
is: the engine waits (R203). -/

namespace Sys2Proof.Machine

/-- RERR <- 0; ORIG <- SECMODE; CHG <- 0; E <- 0 (R141). -/
def State.beginTransfer (s : State) : State :=
  (((s.setRerr 0x00#8).setOrig s.secmode).setChg false).setE 0x00#8

/-- The entry checks of R141 in their order, and the choice of the first phase: `sec` when the mode
found is Sealed, `body` otherwise. -/
def State.enterTransfer (s : State) (sec body : Phase) : State :=
  if s.argsOk then
    if s.secmode = .unknown then s.raise .securityUnknown
    else s.accept.beginTransfer.setPh (if s.secmode = .sealed then sec else body)
  else s.raise .invalidArgument

/-- XMWRITE (R149): the step that accepts it is its entry (R141). -/
def execXmwrite (s : State) : Host.Outcome State Fault Refusal :=
  .next (s.enterTransfer .wSec .wFrame)

/-- XMREAD (R154): its entry (R141), RLEN and LENBAD cleared before the checks. -/
def execXmread (s : State) : Host.Outcome State Fault Refusal :=
  .next (s.clearResult.enterTransfer .rSec .rAddr)

/-- W_SEC and R_SEC (R142): the implicit unseal. A failed request ends the command, with no
restoration. -/
def phaseSec (body : Phase) (s : State) : State :=
  match s.askSec .unsealed with
  | none => s
  | some (.ok, t) => ((t.setSecmode .unsealed).setChg true).setPh body
  | some (.err c, t) => t.endTransfer c.code

/-- W_FRAME (R143). -/
def phaseWFrame (s : State) : State :=
  match s.stampAddress.askTw Config.regMac s.stampAddress.frameHead with
  | none => s
  | some (.ok, t) => t.setPh .wDly1
  | some (.ioError, t) => t.leaveBody .ioError

/-- W_DLY1 and W_DLY2 (R144, R146): the settle delay, the same T_SETTLE in both. -/
def phaseDelay (after : Phase) (s : State) : State :=
  match s.askSleep tSettle with
  | none => s
  | some t => t.setPh after

/-- W_SUM (R145): checksum first, then the length byte. -/
def phaseWSum (s : State) : State :=
  match s.stampTrailer.askTw Config.regMacSum [s.stampTrailer.csum, s.lengthByte] with
  | none => s
  | some (.ok, t) => t.setPh .wDly2
  | some (.ioError, t) => t.leaveBody .ioError

/-- W_STAT (R147): only bit 15 of the fresh status word is tested. -/
def phaseWStat (s : State) : State :=
  match s.askStatus with
  | none => s
  | some (.ok data, t) =>
    if (t.setStat (statusWord data)).statXmfail then (t.setStat (statusWord data)).leaveBody .writeRejected
    else (t.setStat (statusWord data)).leaveBody .ok
  | some (.ioError, t) => t.leaveBody .ioError

/-- R_ADDR (R150): the buffer is not written, no settle delay follows. -/
def phaseRAddr (s : State) : State :=
  match s.askTw Config.regMac [s.addrLo, s.addrHi] with
  | none => s
  | some (.ok, t) => t.setPh .rFrame
  | some (.ioError, t) => t.leaveBody .ioError

/-- R_FRAME (R151): all 36 bytes, or none. -/
def phaseRFrame (s : State) : State :=
  match s.askFrame with
  | none => s
  | some (.ok data, t) => (t.loadBuf data).setPh .rVal
  | some (.ioError, t) => t.leaveBody .ioError

/-- R_VAL (R152): no event. -/
def phaseRVal (s : State) : State := s.validate.2.leaveBody s.validate.1

/-- The transfer's result (R155): the body's code if it failed, else the restoration's. -/
def State.finishTransfer (s : State) : State :=
  s.endTransfer (if s.e ≠ 0x00#8 then s.e else s.rerr)

/-- X_REST (R155): the restoration, attempted when this command changed the mode, and the result. -/
def phaseXRest (s : State) : State :=
  if s.chg then
    match s.askSec s.orig with
    | none => s
    | some (.ok, t) => ((t.setSecmode t.orig).setRerr 0x00#8).finishTransfer
    | some (.err c, t) => (t.setRerr c.code).finishTransfer
  else s.finishTransfer

/-- One step of the sequencer (R140): the phase PH names. In IDLE there is nothing to do. -/
def runPhase (s : State) : State :=
  match s.ph with
  | .idle => s
  | .wSec => phaseSec .wFrame s
  | .wFrame => phaseWFrame s
  | .wDly1 => phaseDelay .wSum s
  | .wSum => phaseWSum s
  | .wDly2 => phaseDelay .wStat s
  | .wStat => phaseWStat s
  | .rSec => phaseSec .rAddr s
  | .rAddr => phaseRAddr s
  | .rFrame => phaseRFrame s
  | .rVal => phaseRVal s
  | .xRest => phaseXRest s

end Sys2Proof.Machine
end

