-- ==== Sys2Proof/Machine/Dispatch.lean ====
section
/-! DEFINITION. The dispatch of an accepted command to its meaning, one arm per row of the opcode table. -/

namespace Sys2Proof.Machine

def exec (i : Instr) (s : State) : Host.Outcome State Fault Refusal :=
  match i with
  | .nop => Sys2Proof.Machine.execNop s
  | .setaddr imm => Sys2Proof.Machine.execSetaddr imm s
  | .setlen a => Sys2Proof.Machine.execSetlen a s
  | .setmask imm => Sys2Proof.Machine.execSetmask imm s
  | .setmode a => Sys2Proof.Machine.execSetmode a s
  | .bufwr a imm => Sys2Proof.Machine.execBufwr a imm s
  | .bufrd a => Sys2Proof.Machine.execBufrd a s
  | .ckclr => Sys2Proof.Machine.execCkclr s
  | .ckadd imm => Sys2Proof.Machine.execCkadd imm s
  | .ckfin => Sys2Proof.Machine.execCkfin s
  | .ckbuf a => Sys2Proof.Machine.execCkbuf a s
  | .xmcomp => Sys2Proof.Machine.execXmcomp s
  | .xmval => Sys2Proof.Machine.execXmval s
  | .xmwrite => Sys2Proof.Machine.execXmwrite s
  | .xmread => Sys2Proof.Machine.execXmread s
  | .stget => Sys2Proof.Machine.execStget s
  | .stdec imm => Sys2Proof.Machine.execStdec imm s
  | .sttest imm => Sys2Proof.Machine.execSttest imm s
  | .stseed => Sys2Proof.Machine.execStseed s

end Sys2Proof.Machine
end

