-- ==== Sys2Proof/Machine/HostPort.lean ====
section
/-! DEFINITION. The host's side: what an illegal word does (R94), what the host can read (R36, R37), when
a run has ended (R11). -/

namespace Sys2Proof.Machine

/-- An illegal word at the ready port is accepted and ends with IllegalCommand; nothing else changes
(R94). -/
def State.illegalWord (s : State) : State := s.raise .illegalCommand

/-- What the host can read: the twelve registers of R21 to R32 and the six views of R36. PH, ORIG, CHG
and E are hidden (R33, R34); the buffer is read by BUFRD (R37). -/
inductive HostReg where
  | addr | len | mask | out | acc | csum
  | stat | secmode | res | rerr | rlen | flags
  | run | init | sec | xmfail | secdec | ready
deriving DecidableEq, Repr

/-- The value of a register or view, zero-extended to 16 bits. -/
def State.regValue (s : State) : HostReg → Half
  | .addr => s.addr
  | .len => s.len.setWidth 16
  | .mask => s.mask
  | .out => s.out
  | .acc => s.acc.setWidth 16
  | .csum => s.csum.setWidth 16
  | .stat => s.stat
  | .secmode => (modeCode s.secmode).setWidth 16
  | .res => s.res.setWidth 16
  | .rerr => s.rerr.setWidth 16
  | .rlen => s.rlen.setWidth 16
  | .flags => s.flags.setWidth 16
  | .run => (BitVec.ofBool s.statRun).setWidth 16
  | .init => (BitVec.ofBool s.statInit).setWidth 16
  | .sec => s.statSec.setWidth 16
  | .xmfail => (BitVec.ofBool s.statXmfail).setWidth 16
  | .secdec => (modeCode s.secdec).setWidth 16
  | .ready => (BitVec.ofBool s.ready).setWidth 16

/-- A host read (R37): possible between commands, with no side effect, hence a function of the state
alone. While a transfer runs the host sees only `ready` (R33, R140). -/
def State.hostRead (s : State) (r : HostReg) : Option Half :=
  if s.ready ∨ r = .ready then some (s.regValue r) else none

/-- A run has ended when the last command has completed and the host presents nothing more (R11). -/
def State.runEnded (s : State) : Bool := s.ready && s.hostWords.isEmpty

end Sys2Proof.Machine
end

