-- ==== Sys2Proof/Machine/Step.lean ====
section
/-! DEFINITION. One step of the engine (R10, R98, R140), and how the host's interface presents a word. -/

namespace Sys2Proof.Machine

/-- One step. Ready (PH = IDLE): the presented word, if there is one, is decoded and run, and an illegal
one ends with IllegalCommand (R94); with no word presented the block waits as it is. Not ready: the
phase PH names, while a presented word waits unchanged (R98). -/
def step (s : State) : Host.Outcome State Fault Refusal :=
  match s.ready, s.presented with
  | true, some w =>
    match decode w with
    | .ok i => exec i s
    | .error _ => .next s.illegalWord
  | true, none => .next s
  | false, _ => .next (runPhase s)

/-- `s` with the table word `w` presented at the ready command port, so that the next step runs it. -/
def State.withFetchWord (s : State) (nbits w : Nat) : State :=
  s.presentWord (BitVec.ofNat 32 (w % 2 ^ nbits))

end Sys2Proof.Machine
end

