-- ==== Sys2Proof/Safety.lean ====
section
/-! DEFINITION. What the claims call a well-behaved state: the invariant that the rules promise of every
state a run reaches, when the engine has the answer it needs, and the terms for runs. -/

namespace Sys2Proof.Machine

/-- PH names a phase of a read's body or its implicit unseal, R_SEC to R_VAL (R154). -/
def Phase.ofRead : Phase → Bool
  | .rSec => true
  | .rAddr => true
  | .rFrame => true
  | .rVal => true
  | .idle => false
  | .wSec => false
  | .wFrame => false
  | .wDly1 => false
  | .wSum => false
  | .wDly2 => false
  | .wStat => false
  | .xRest => false

/-- PH names a phase of a write after its head was sent, W_DLY1 to W_STAT (R143 to R147). -/
def Phase.headSent : Phase → Bool
  | .wDly1 => true
  | .wSum => true
  | .wDly2 => true
  | .wStat => true
  | .idle => false
  | .wSec => false
  | .wFrame => false
  | .rSec => false
  | .rAddr => false
  | .rFrame => false
  | .rVal => false
  | .xRest => false

/-- PH names a phase of a write after its trailer was sent, W_DLY2 or W_STAT (R145 to R147). -/
def Phase.trailerSent : Phase → Bool
  | .wDly2 => true
  | .wStat => true
  | .idle => false
  | .wSec => false
  | .wFrame => false
  | .wDly1 => false
  | .wSum => false
  | .rSec => false
  | .rAddr => false
  | .rFrame => false
  | .rVal => false
  | .xRest => false

/-- The modes before the implicit unseal (R141, R142): still Sealed, and not changed by this command. -/
def State.modesBeforeUnseal (s : State) : Prop :=
  s.secmode = .sealed ∧ s.orig = .sealed ∧ s.chg = false

/-- The modes from the body on (R142, R155, R156): Unsealed with an original mode Sealed if this command
changed the mode; otherwise the original mode, which is Unsealed or FullAccess. -/
def State.modesInBody (s : State) : Prop :=
  (s.chg = true ∧ s.secmode = .unsealed ∧ s.orig = .sealed) ∨
    (s.chg = false ∧ s.secmode = s.orig ∧ (s.orig = .unsealed ∨ s.orig = .fullAccess))

/-- The hidden mode state of a transfer agrees with its phase. -/
def State.modesAgree (s : State) : Prop :=
  match s.ph with
  | .idle => True
  | .wSec => s.modesBeforeUnseal
  | .rSec => s.modesBeforeUnseal
  | .wFrame => s.modesInBody
  | .wDly1 => s.modesInBody
  | .wSum => s.modesInBody
  | .wDly2 => s.modesInBody
  | .wStat => s.modesInBody
  | .rAddr => s.modesInBody
  | .rFrame => s.modesInBody
  | .rVal => s.modesInBody
  | .xRest => s.modesInBody

/-! ### Terms of the claims, spelt out from the rules independently of the machine's own operations -/

/-- The `(mask, match)` columns of the opcode table, row by row (R91, R93). -/
def commandRows : List (Word × Word) :=
  [(0xFFFFFFFF#32, 0x00000000#32), (0xFFFF0000#32, 0x01000000#32), (0xFF00FFFF#32, 0x02000000#32),
    (0xFFFF0000#32, 0x03000000#32), (0xFF00FFFF#32, 0x04000000#32), (0xFF00FF00#32, 0x08000000#32),
    (0xFF00FFFF#32, 0x09000000#32), (0xFFFFFFFF#32, 0x10000000#32), (0xFFFFFF00#32, 0x11000000#32),
    (0xFFFFFFFF#32, 0x12000000#32), (0xFF00FFFF#32, 0x13000000#32), (0xFFFFFFFF#32, 0x20000000#32),
    (0xFFFFFFFF#32, 0x21000000#32), (0xFFFFFFFF#32, 0x22000000#32), (0xFFFFFFFF#32, 0x23000000#32),
    (0xFFFFFFFF#32, 0x30000000#32), (0xFFFF0000#32, 0x31000000#32), (0xFFFF0000#32, 0x32000000#32),
    (0xFFFFFFFF#32, 0x33000000#32)]

/-- ADDR and LEN pass the argument check (R132). -/
def State.argsInRange (s : State) : Prop :=
  (0x4000 ≤ s.addr.toNat ∧ s.addr.toNat ≤ 0x43FF) ∧ 1 ≤ s.len.toNat ∧ s.len.toNat ≤ 32

/-- The low byte of ADDR (R64). -/
def State.lowAddr (s : State) : Byte := BitVec.ofNat 8 (s.addr.toNat % 256)

/-- The high byte of ADDR (R64). -/
def State.highAddr (s : State) : Byte := BitVec.ofNat 8 (s.addr.toNat / 256)

/-- The payload of a write, BUF[2] to BUF[LEN+1] (R35, R130). -/
def State.payload (s : State) : List Byte :=
  (List.range s.len.toNat).map fun i => s.bufByte (i + 2)

/-- The bytes of a write's frame head (R130). -/
def State.writeHead (s : State) : List Byte := s.lowAddr :: s.highAddr :: s.payload

/-- The two bytes of a write's trailer: checksum, payload length + 4 (R130). -/
def State.writeTrailer (s : State) : List Byte :=
  [checksum s.writeHead, BitVec.ofNat 8 (s.len.toNat + 4)]

/-- BUF[0] and BUF[1] echo ADDR, low byte first (R134 step 1). -/
def State.echoOk (s : State) : Prop := s.bufByte 0 = s.lowAddr ∧ s.bufByte 1 = s.highAddr

/-- The length byte of the frame in the buffer (R131). -/
def State.frameL (s : State) : Nat := (s.bufByte 35).toNat

/-- The length byte describes a payload of 1 to 32 bytes (R134 step 2). -/
def State.lengthOk (s : State) : Prop := 5 ≤ s.frameL ∧ s.frameL ≤ 36

/-- The checksum over the first `L - 2` bytes of the frame in the buffer (R134 step 3). -/
def State.frameSum (s : State) : Byte := checksum ((List.range (s.frameL - 2)).map s.bufByte)

/-- The effective length of the frame in the buffer (R134 step 4). -/
def State.effectiveLength (s : State) : Nat := min (s.frameL - 4) s.len.toNat

/-! ### The invariant -/

/-- The invariant of the block, kept by every step from every state (not only along runs from reset). -/
structure State.Inv (s : State) : Prop where
  /-- BUF holds exactly the bytes 0 to 35 (R35). -/
  buffer : bufWf s.buf = true
  /-- A transfer in progress has passed the argument check, and ADDR and LEN stay (R141, R149, R154). -/
  args : s.ph ≠ .idle → s.argsOk = true
  /-- SECMODE, ORIG and CHG agree with the phase (R141, R142, R156). -/
  modes : s.modesAgree
  /-- RERR is 0x00 until the restoration writes it (R141, R155). -/
  rerr : s.ph ≠ .idle → s.rerr = 0x00#8
  /-- E is 0x00 until the body is left (R141). -/
  noErrorYet : s.ph ≠ .idle → s.ph ≠ .xRest → s.e = 0x00#8
  /-- At X_REST, E holds a code of the body: OK, IoError, AddressMismatch, ChecksumMismatch or
  WriteRejected (R143 to R152). -/
  bodyCode : s.ph = .xRest → s.e ∈ [0x00#8, 0x01#8, 0x05#8, 0x06#8, 0x07#8]
  /-- RLEN is 0 to 32 (R31). -/
  rlen : s.rlen.toNat ≤ 32
  /-- A read has cleared RLEN and LENBAD before its validation (R141). -/
  cleared : s.ph.ofRead = true → s.rlen = 0x00#8 ∧ s.flagLenbad = false
  /-- After an impossible length byte there is no valid data (R31, R32). -/
  lenbad : s.flagLenbad = true → s.rlen = 0x00#8
  /-- From W_DLY1 to W_STAT, BUF[0] and BUF[1] hold ADDR as W_FRAME stored it (R143). -/
  addressStored : s.ph.headSent = true → s.echoOk
  /-- In W_DLY2 and W_STAT, the buffer holds the composed frame and CSUM its checksum (R145). -/
  trailerStored : s.ph.trailerSent = true → s.csum = checksum s.writeHead ∧ s.bufByte 34 = s.csum ∧
    (s.bufByte 35).toNat = s.len.toNat + 4

/-! ### Terms of whole transfers -/

/-- The status word of two received bytes, the first being the low one (R65). -/
def statusOf (data : Bytes 2) : Half :=
  BitVec.ofNat 16 ((data.bytes.getD 0 0#8).toNat + 256 * (data.bytes.getD 1 0#8).toNat)

/-- What a security answer leaves in RERR as a restoration (R155). -/
def SecAnswer.restoreCode : SecAnswer → Byte
  | .ok => 0x00#8
  | .err c => c.code

/-- The trailer's places are as they were: the transfer ended before W_SUM (R143). -/
def State.trailerKept (s t : State) : Prop :=
  t.csum = s.csum ∧ t.bufByte 34 = s.bufByte 34 ∧ t.bufByte 35 = s.bufByte 35

/-- The trailer's places hold the checksum and the length byte of the frame, as W_SUM stores them
(R145). -/
def State.trailerWritten (s t : State) : Prop :=
  t.csum = checksum s.writeHead ∧ t.bufByte 34 = checksum s.writeHead ∧
    (t.bufByte 35).toNat = s.len.toNat + 4

/-- The body of a write from `s` as R157 lists it: the events, the code the body ends with, and what it
leaves in BUF[0], BUF[1], BUF[34], BUF[35], CSUM and STAT of the final state `t`. -/
def WriteBody (s t : State) (body : List Event) (code : Byte) : Prop :=
  t.bufByte 0 = s.lowAddr ∧ t.bufByte 1 = s.highAddr ∧
  ((body = [.tw Config.regMac s.writeHead .ioError] ∧ code = 0x01#8 ∧
      s.trailerKept t ∧ t.stat = s.stat) ∨
    (body = [.tw Config.regMac s.writeHead .ok, .sleep tSettle,
        .tw Config.regMacSum s.writeTrailer .ioError] ∧ code = 0x01#8 ∧
      s.trailerWritten t ∧ t.stat = s.stat) ∨
    (body = [.tw Config.regMac s.writeHead .ok, .sleep tSettle,
        .tw Config.regMacSum s.writeTrailer .ok, .sleep tSettle,
        .tr Config.regControl [] 2 .ioError] ∧ code = 0x01#8 ∧
      s.trailerWritten t ∧ t.stat = s.stat) ∨
    ∃ data, body = [.tw Config.regMac s.writeHead .ok, .sleep tSettle,
        .tw Config.regMacSum s.writeTrailer .ok, .sleep tSettle,
        .tr Config.regControl [] 2 (.ok data)] ∧
      code = (if (statusOf data).getLsbD 15 then 0x07#8 else 0x00#8) ∧
      s.trailerWritten t ∧ t.stat = statusOf data)

/-- The length byte of a received frame (R131). -/
def receivedL (data : List Byte) : Nat := (data.getD 35 0#8).toNat

/-- A received frame echoes ADDR, low byte first (R134 step 1). -/
abbrev State.receivedEcho (s : State) (data : List Byte) : Prop :=
  data.getD 0 0#8 = s.lowAddr ∧ data.getD 1 0#8 = s.highAddr

/-- The length byte of a received frame describes a payload of 1 to 32 bytes (R134 step 2). -/
abbrev receivedLengthOk (data : List Byte) : Prop := 5 ≤ receivedL data ∧ receivedL data ≤ 36

/-- The checksum over the first `L - 2` bytes of a received frame (R134 step 3). -/
def receivedSum (data : List Byte) : Byte := checksum (data.take (receivedL data - 2))

/-- The result code of validating a received frame against ADDR, in the order of R134. -/
def State.verdict (s : State) (data : List Byte) : Byte :=
  if ¬ s.receivedEcho data then 0x05#8
  else if ¬ receivedLengthOk data then 0x06#8
  else if receivedSum data ≠ data.getD 34 0#8 then 0x06#8
  else 0x00#8

/-- No frame was received: the buffer and CSUM are as they were, and there is no valid data (R141, R150,
R151). -/
def State.noFrameRead (s t : State) : Prop :=
  t.buf = s.buf ∧ t.csum = s.csum ∧ t.rlen = 0x00#8 ∧ t.flagLenbad = false

/-- What a received frame leaves (R134, R151, R152): the buffer is the frame; CSUM is its checksum if the
validation came to compute it; LENBAD says whether it ended at the length byte; RLEN is the effective length
of a frame that passed, and 0 otherwise. -/
def State.frameRead (s t : State) (data : List Byte) : Prop :=
  (∀ i < 36, some (t.bufByte i) = data[i]?) ∧
  t.csum = (if s.receivedEcho data ∧ receivedLengthOk data then receivedSum data else s.csum) ∧
  (t.flagLenbad = true ↔ s.receivedEcho data ∧ ¬ receivedLengthOk data) ∧
  t.rlen.toNat = if s.verdict data = 0x00#8 then min (receivedL data - 4) s.len.toNat else 0

/-- The body of a read from `s` as R157 lists it: the events, the code the body ends with (of a received
frame, what its validation ends with, R152), and what it leaves in BUF, CSUM, RLEN and LENBAD of the final
state `t`. -/
def ReadBody (s t : State) (body : List Event) (code : Byte) : Prop :=
  (body = [.tw Config.regMac [s.lowAddr, s.highAddr] .ioError] ∧ code = 0x01#8 ∧ s.noFrameRead t) ∨
  (body = [.tw Config.regMac [s.lowAddr, s.highAddr] .ok, .tr Config.regMac [] 36 .ioError] ∧
    code = 0x01#8 ∧ s.noFrameRead t) ∨
  (∃ data, body = [.tw Config.regMac [s.lowAddr, s.highAddr] .ok,
      .tr Config.regMac [] 36 (.ok data)] ∧
    code = s.verdict data.bytes ∧ s.frameRead t data.bytes)

/-- The security events around a body (R156, R157): none unless the mode at entry was Sealed, and then an
unseal answered ok before it and a re-seal after it, whose answer gives RERR. -/
def Wrapped (s : State) (body events : List Event) (rerr : Byte) : Prop :=
  (s.secmode ≠ .sealed ∧ events = body ∧ rerr = 0x00#8) ∨
  (s.secmode = .sealed ∧ ∃ answer : SecAnswer, rerr = answer.restoreCode ∧
    events = .secreq .unsealed .ok :: body ++ [.secreq .sealed answer])

/-- The environment has given the answer that the event of the current phase needs; a phase without an
event needs none (R140, R203). -/
def State.answered (s : State) : Bool :=
  match s.ph with
  | .idle => true
  | .wSec => !s.secIn.isEmpty
  | .wFrame => !s.twIn.isEmpty
  | .wDly1 => decide (0 < s.sleepIn)
  | .wSum => !s.twIn.isEmpty
  | .wDly2 => decide (0 < s.sleepIn)
  | .wStat => !s.statusIn.isEmpty
  | .rSec => !s.secIn.isEmpty
  | .rAddr => !s.twIn.isEmpty
  | .rFrame => !s.frameIn.isEmpty
  | .rVal => true
  | .xRest => !s.chg || !s.secIn.isEmpty

/-- The answers that suffice for every event one transfer can emit (R157: at most two SECREQ, two TW, one
TR and two SLEEP). -/
def State.environmentReady (s : State) : Prop :=
  2 ≤ s.secIn.length ∧ 2 ≤ s.twIn.length ∧ 1 ≤ s.statusIn.length ∧ 1 ≤ s.frameIn.length ∧
    2 ≤ s.sleepIn

/-- The answers that suffice for every event of one write (R157), from the ports a write uses (assumption
4): security answers are asked only when SECMODE is Sealed. -/
def State.writeReady (s : State) : Prop :=
  (s.secmode = .sealed → 2 ≤ s.secIn.length) ∧ 2 ≤ s.twIn.length ∧ 1 ≤ s.statusIn.length ∧ 2 ≤ s.sleepIn

/-- The answers that suffice for every event of one read (R157), from the ports a read uses (assumption
4). -/
def State.readReady (s : State) : Prop :=
  (s.secmode = .sealed → 2 ≤ s.secIn.length) ∧ 1 ≤ s.twIn.length ∧ 1 ≤ s.frameIn.length

/-- The block is ready and the host presents the command `i`, then the words `rest` (R98). -/
def State.presents (s : State) (i : Instr) (rest : List Word) : Prop :=
  s.ph = .idle ∧ s.hostWords = encode i :: rest

/-- `n` steps of the machine. -/
def State.after (s : State) (n : Nat) : Host.Outcome State Fault Refusal :=
  Host.Core.run Sys2Proof.core n s

end Sys2Proof.Machine
end

