-- ==== Sys2Proof/Certificates/Slice0/Obligations.lean ====
section
/-! DEFINITION. The statements for the provers. `argsInRange`, `lowAddr`, `payload`, … (Safety.lean) spell the
rules' terms out, independently of the machine's own operations. Every statement about a next state gives the
whole state: what is not named in a record update is unchanged. `hostWords` and the queues of answers are the
model's own fields (assumptions 3 and 4): `hostWords := s.hostWords.tail` is the acceptance of the presented
word (R98), and an answer at the head of a queue is the environment's answer to the event (R68 to R72). -/

open Sys2Proof Sys2Proof.Machine

/-! ## Encoding -/

/-- R90 to R93: no bit of an encoding is dropped. -/
def Obligations.DecodeAfterEncodeIsIdentity : Prop :=
  ∀ i : Instr, i.wellFormed = true → decode (encode i) = .ok i

/-- R91, R93, R94: every word is either exactly one command or illegal, and it is the opcode table's masks
that say which; a command's word is the one `encode` gives it. -/
def Obligations.EveryWordIsOneCommandOrIllegal : Prop :=
  ∀ w : Word,
    ((∃ row ∈ commandRows, w &&& row.1 = row.2) ↔ ∃ i, decode w = .ok i) ∧
    (∀ i, decode w = .ok i ↔ encode i = w)

/-- Words written out from the spec's own examples (R97, `95_test_vectors.md` 2.2). -/
def Obligations.SampleWordsDecode : Prop :=
  decode 0x010041FE#32 = .ok (.setaddr 0x41FE#16) ∧
  decode 0x08020007#32 = .ok (.bufwr 2#8 0x07#8) ∧
  decode 0x11000034#32 = .ok (.ckadd 0x34#8) ∧
  decode 0x22000000#32 = .ok .xmwrite ∧
  decode 0x3200FFFF#32 = .ok (.sttest 0xFFFF#16) ∧
  decode 0x13250000#32 = .ok (.ckbuf 37#8) ∧
  decode 0x05000000#32 = .error .reservedOpcode ∧
  decode 0x11000100#32 = .error .nonzeroField

/-- R94: no word is selected by two rows of the opcode map, and a word that no row selects, at the ready
port, is accepted and completes in one step; only RES changes, and no event is emitted. -/
def Obligations.IllegalWordOnlyWritesRes : Prop :=
  ∀ w : Word, (commandRows.filter fun row => decide (w &&& row.1 = row.2)).length ≤ 1 ∧
    ((∀ row ∈ commandRows, w &&& row.1 ≠ row.2) →
      ∀ (s : State) (rest : List Word), s.ph = .idle → s.hostWords = w :: rest →
        step s = .next { s with res := 0x0A#8, hostWords := rest })

/-! ## The step -/

/-- A step runs the decoded command: when the ready port holds the word of a well-formed command, the step is
`exec` of it at that very state, with nothing added (the meaning itself takes the word). A ready block to
which nothing is presented waits (R39, R98). That the presented words stand in State is assumption 3. -/
def Obligations.StepRunsTheDecodedCommand : Prop :=
  ∀ s : State, s.ph = .idle →
    (∀ (w : Word) (rest : List Word) (i : Instr), s.hostWords = w :: rest → decode w = .ok i →
      i.wellFormed = true → step s = exec i s) ∧
    (s.hostWords = [] → step s = .next s)

/-- R98: while a transfer is in progress the step is the phase's, and a presented word waits unchanged; so do
the registers no transfer writes (R149, R154). -/
def Obligations.BusyBlockKeepsWaitingWordAndOperands : Prop :=
  ∀ (s t : State), s.ph ≠ .idle → step s = .next t →
    t = runPhase s ∧ t.hostWords = s.hostWords ∧ t.addr = s.addr ∧ t.len = s.len ∧
    t.mask = s.mask ∧ t.out = s.out ∧ t.acc = s.acc ∧ t.flagM = s.flagM

/-- R10: no trap and no stuck state of the engine's own: every step answers a next state. -/
def Obligations.EveryStepAnswersANextState : Prop :=
  ∀ s : State, ∃ t, step s = .next t

/-- R203: an event without an answer: the step changes nothing, it does not let the engine move on. That the
missing answer is an empty queue of the state, and that a waiting STGET keeps its word at the port, are the
model's choices (assumption 4). -/
def Obligations.EngineWaitsForAMissingAnswer : Prop :=
  ∀ s : State, (s.answered = false → step s = .next s) ∧
    (s.statusIn = [] → exec .stget s = .next s)

/-- With its answer, every phase moves the sequencer on; only the last phase, a failed unseal and a finished
restoration reach IDLE (R33, R140). -/
def Obligations.AnsweredPhaseMovesOn : Prop :=
  ∀ (s t : State), s.ph ≠ .idle → s.answered = true → step s = .next t →
    t.ph ≠ s.ph ∧ (t.ph = .idle → s.ph = .wSec ∨ s.ph = .rSec ∨ s.ph = .xRest)

/-- R73, R140: the history is only appended to, by at most one event a step. -/
def Obligations.HistoryGrowsByAtMostOneEvent : Prop :=
  ∀ (s t : State), step s = .next t → t.history = s.history ∨ ∃ ev, t.history = s.history ++ [ev]

/-! ## Operand and buffer commands -/

/-- R111. -/
def Obligations.NopOnlyWritesRes : Prop :=
  (encode .nop).toNat = 0x00000000 ∧
  ∀ s : State, exec .nop s = .next { s with res := 0x00#8, hostWords := s.hostWords.tail }

/-- R112, R113, R114: every value of the operand is stored; the ranges are checked where ADDR and LEN are
used. -/
def Obligations.OperandCommandsWriteTheirRegister : Prop :=
  (∀ imm : Half, (encode (.setaddr imm)).toNat = 0x01000000 + imm.toNat) ∧
  (∀ a : Byte, (encode (.setlen a)).toNat = 0x02000000 + a.toNat * 0x10000) ∧
  (∀ imm : Half, (encode (.setmask imm)).toNat = 0x03000000 + imm.toNat) ∧
  ∀ s : State,
    (∀ imm : Half, exec (.setaddr imm) s =
      .next { s with addr := imm, res := 0x00#8, hostWords := s.hostWords.tail }) ∧
    (∀ a : Byte, exec (.setlen a) s =
      .next { s with len := a, res := 0x00#8, hostWords := s.hostWords.tail }) ∧
    (∀ imm : Half, exec (.setmask imm) s =
      .next { s with mask := imm, res := 0x00#8, hostWords := s.hostWords.tail })

/-- R115: the codes 1 to 3, and InvalidArgument for every other operand. -/
def Obligations.SetmodeRecordsAMode : Prop :=
  (∀ a : Byte, (encode (.setmode a)).toNat = 0x04000000 + a.toNat * 0x10000) ∧
  ∀ s : State,
    exec (.setmode 1#8) s =
      .next { s with secmode := .sealed, res := 0x00#8, hostWords := s.hostWords.tail } ∧
    exec (.setmode 2#8) s =
      .next { s with secmode := .unsealed, res := 0x00#8, hostWords := s.hostWords.tail } ∧
    exec (.setmode 3#8) s =
      .next { s with secmode := .fullAccess, res := 0x00#8, hostWords := s.hostWords.tail } ∧
    ∀ a : Byte, a = 0#8 ∨ 3 < a.toNat → exec (.setmode a) s =
      .next { s with res := 0x02#8, hostWords := s.hostWords.tail }

/-- R116: BUF[a] gets the byte and every other byte of the buffer stays, for an index up to 35; above, nothing
but RES changes. -/
def Obligations.BufwrStoresOneByte : Prop :=
  ∀ (a b : Byte) (s : State),
    (encode (.bufwr a b)).toNat = 0x08000000 + a.toNat * 0x10000 + b.toNat ∧
    (a.toNat ≤ 35 → ∃ t, exec (.bufwr a b) s = .next t ∧
      t = { s with buf := t.buf, res := 0x00#8, hostWords := s.hostWords.tail } ∧
      t.bufByte a.toNat = b ∧ ∀ j, j ≠ a.toNat → t.bufByte j = s.bufByte j) ∧
    (35 < a.toNat → exec (.bufwr a b) s =
      .next { s with res := 0x02#8, hostWords := s.hostWords.tail })

/-- R117: OUT gets the byte, zero-extended; above index 35 OUT is unchanged. -/
def Obligations.BufrdLoadsOneByte : Prop :=
  ∀ (a : Byte) (s : State),
    (encode (.bufrd a)).toNat = 0x09000000 + a.toNat * 0x10000 ∧
    (a.toNat ≤ 35 → ∃ t, exec (.bufrd a) s = .next t ∧
      t = { s with out := t.out, res := 0x00#8, hostWords := s.hostWords.tail } ∧
      t.out.toNat = (s.bufByte a.toNat).toNat) ∧
    (35 < a.toNat → exec (.bufrd a) s =
      .next { s with res := 0x02#8, hostWords := s.hostWords.tail })

/-! ## The checksum -/

/-- R120: the value, in numbers, for every byte sequence, the empty one included. -/
def Obligations.ChecksumIsComplementOfSum : Prop :=
  ∀ bs : List Byte, (checksum bs).toNat = 255 - (bs.map BitVec.toNat).sum % 256 ∧
    checksum bs = sumBytes bs ^^^ 0xFF#8 ∧ ∀ cs, bs.Perm cs → checksum cs = checksum bs

/-- R127: (a) to (c), and (d) a change of one byte changes the checksum. -/
def Obligations.ChecksumLaws : Prop :=
  ∀ bs : List Byte,
    sumBytes (bs ++ [checksum bs]) = 0xFF#8 ∧ checksum (bs ++ [checksum bs]) = 0x00#8 ∧
    (∀ c : Byte, c = checksum bs ↔ sumBytes (bs ++ [c]) = 0xFF#8) ∧
    ∀ (k : Nat) (b : Byte) (h : k < bs.length), b ≠ bs[k] → checksum (bs.set k b) ≠ checksum bs

/-- R122. -/
def Obligations.CkclrClearsAcc : Prop :=
  (encode .ckclr).toNat = 0x10000000 ∧
  ∀ s : State, exec .ckclr s =
    .next { s with acc := 0x00#8, res := 0x00#8, hostWords := s.hostWords.tail }

/-- R123: the sum wraps modulo 256. -/
def Obligations.CkaddAddsModulo256 : Prop :=
  ∀ (b : Byte) (s : State), (encode (.ckadd b)).toNat = 0x11000000 + b.toNat ∧ ∃ t, exec (.ckadd b) s = .next t ∧
    t = { s with acc := t.acc, res := 0x00#8, hostWords := s.hostWords.tail } ∧
    t.acc.toNat = (s.acc.toNat + b.toNat) % 256

/-- R124: ACC is not cleared. -/
def Obligations.CkfinDeliversComplementOfAcc : Prop :=
  (encode .ckfin).toNat = 0x12000000 ∧
  ∀ s : State, ∃ t, exec .ckfin s = .next t ∧
    t = { s with csum := t.csum, out := t.out, res := 0x00#8, hostWords := s.hostWords.tail } ∧
    t.csum.toNat = 255 - s.acc.toNat ∧ t.out.toNat = t.csum.toNat

/-- R125: the first `a` bytes, up to 36. -/
def Obligations.CkbufSumsTheFirstBytes : Prop :=
  ∀ (a : Byte) (s : State),
    (encode (.ckbuf a)).toNat = 0x13000000 + a.toNat * 0x10000 ∧
    (a.toNat ≤ 36 → ∃ t, exec (.ckbuf a) s = .next t ∧
      t = { s with csum := t.csum, out := t.out, res := 0x00#8, hostWords := s.hostWords.tail } ∧
      t.csum = checksum ((List.range a.toNat).map s.bufByte) ∧ t.out.toNat = t.csum.toNat) ∧
    (36 < a.toNat → exec (.ckbuf a) s =
      .next { s with res := 0x02#8, hostWords := s.hostWords.tail })

/-- R99, R122 to R124: the pseudo-instruction CKSUM, over a byte sequence of any length: after one step for
each command of its expansion CSUM and OUT hold the checksum of the sequence, and ACC its sum. -/
def Obligations.CksumExpansionComputesTheChecksum : Prop :=
  ∀ (bs : List Byte) (rest : List Word) (s : State), s.ph = .idle →
    s.hostWords = (Pseudo.cksum bs).expand.map encode ++ rest →
      s.after (bs.length + 2) = .next { s with
        acc := sumBytes bs, csum := checksum bs, out := (checksum bs).setWidth 16, res := 0x00#8,
        hostWords := rest }

/-- R99: PAYWR and PAYRD reach payload byte `i` at BUF[2+i], for `i` from 0 to 31; the assembler rejects every
greater index. That it rejects one of PAYRD too is the model's choice (assumption 5). -/
def Obligations.PayloadPseudosReachThePayload : Prop :=
  ∀ (i : Nat) (b : Byte),
    (i ≤ 31 → (Pseudo.paywr i b).wellFormed = true ∧ (Pseudo.payrd i).wellFormed = true ∧
      ∀ s : State,
        (∃ c t, (Pseudo.paywr i b).expand = [c] ∧ exec c s = .next t ∧ t.bufByte (i + 2) = b ∧
          t.res = 0x00#8) ∧
        ∃ c t, (Pseudo.payrd i).expand = [c] ∧ exec c s = .next t ∧
          t.out = (s.bufByte (i + 2)).setWidth 16 ∧ t.res = 0x00#8) ∧
    (31 < i → (Pseudo.paywr i b).wellFormed = false ∧ (Pseudo.payrd i).wellFormed = false)

/-! ## Frames -/

/-- R133: the frame, CSUM and RES when the arguments are in range; nothing but RES otherwise. -/
def Obligations.XmcompComposesTheFrame : Prop :=
  (encode .xmcomp).toNat = 0x20000000 ∧
  ∀ s : State,
    (s.argsInRange → ∃ t, exec .xmcomp s = .next t ∧
      t = { s with buf := t.buf, csum := checksum s.writeHead, res := 0x00#8,
                   hostWords := s.hostWords.tail } ∧
      t.bufByte 0 = s.lowAddr ∧ t.bufByte 1 = s.highAddr ∧
      t.bufByte 34 = checksum s.writeHead ∧ (t.bufByte 35).toNat = s.len.toNat + 4 ∧
      ∀ j, j ≠ 0 → j ≠ 1 → j ≠ 34 → j ≠ 35 → t.bufByte j = s.bufByte j) ∧
    (¬ s.argsInRange → exec .xmcomp s =
      .next { s with res := 0x02#8, hostWords := s.hostWords.tail })

/-- R135 with R132 and R134: the five ways XMVAL ends, each with the whole state. -/
def Obligations.XmvalValidatesTheFrame : Prop :=
  (encode .xmval).toNat = 0x21000000 ∧
  ∀ s : State,
    (¬ s.argsInRange → exec .xmval s =
      .next { s with rlen := 0x00#8, flags := s.flags &&& 1#2, res := 0x02#8,
                     hostWords := s.hostWords.tail }) ∧
    (s.argsInRange → ¬ s.echoOk → exec .xmval s =
      .next { s with rlen := 0x00#8, flags := s.flags &&& 1#2, res := 0x05#8,
                     hostWords := s.hostWords.tail }) ∧
    (s.argsInRange → s.echoOk → ¬ s.lengthOk → exec .xmval s =
      .next { s with rlen := 0x00#8, flags := (s.flags &&& 1#2) ||| 2#2, res := 0x06#8,
                     hostWords := s.hostWords.tail }) ∧
    (s.argsInRange → s.echoOk → s.lengthOk → s.frameSum ≠ s.bufByte 34 → exec .xmval s =
      .next { s with rlen := 0x00#8, flags := s.flags &&& 1#2, csum := s.frameSum, res := 0x06#8,
                     hostWords := s.hostWords.tail }) ∧
    (s.argsInRange → s.echoOk → s.lengthOk → s.frameSum = s.bufByte 34 → exec .xmval s =
      .next { s with rlen := BitVec.ofNat 8 s.effectiveLength, flags := s.flags &&& 1#2,
                     csum := s.frameSum, res := 0x00#8, hostWords := s.hostWords.tail })

/-- R136: what XMCOMP composes, XMVAL accepts: in any later state `u` with ADDR and the bytes of the frame
unchanged and a requested maximum from 1 to 32, with RLEN = min(p, m). -/
def Obligations.ComposedFrameValidates : Prop :=
  ∀ s t u : State, s.argsInRange → exec .xmcomp s = .next t →
    u.addr = s.addr → 1 ≤ u.len.toNat → u.len.toNat ≤ 32 →
    (∀ k < 36, (k < s.len.toNat + 2 ∨ k = 34 ∨ k = 35) → u.bufByte k = t.bufByte k) →
    ∃ v, exec .xmval u = .next v ∧ v.res = 0x00#8 ∧
      v.rlen.toNat = min s.len.toNat u.len.toNat ∧ v.csum = t.csum ∧ v.flagLenbad = false

/-- R136, the converse: one changed payload byte or checksum byte ends with ChecksumMismatch, a changed
address byte with AddressMismatch. -/
def Obligations.TamperedFrameIsRejected : Prop :=
  ∀ (s t u : State) (j : Nat), s.argsInRange → exec .xmcomp s = .next t →
    u.addr = s.addr → 1 ≤ u.len.toNat → u.len.toNat ≤ 32 →
    (j < s.len.toNat + 2 ∨ j = 34) → u.bufByte j ≠ t.bufByte j →
    (∀ k < 36, k ≠ j → (k < s.len.toNat + 2 ∨ k = 34 ∨ k = 35) → u.bufByte k = t.bufByte k) →
    ∃ v, exec .xmval u = .next v ∧ v.rlen = 0x00#8 ∧ v.flagLenbad = false ∧
      v.res = if j < 2 then 0x05#8 else 0x06#8

/-- R121, R135: the padding of a frame, BUF[L-2] to BUF[33], never influences XMVAL. -/
def Obligations.PaddingNeverInfluencesValidation : Prop :=
  ∀ (s t : State) (b : List Host.Cell), t = { s with buf := b } →
    (∀ i < 36, (i < 2 ∨ i < s.frameL - 2 ∨ i = 34 ∨ i = 35) → t.bufByte i = s.bufByte i) →
    ∃ u v, exec .xmval s = .next u ∧ exec .xmval t = .next v ∧ v = { u with buf := b }

/-! ## Transfers: the entry and the phases -/

/-- R141 for XMWRITE: the checks in their order, and the first phase. -/
def Obligations.XmwriteEntry : Prop :=
  (encode .xmwrite).toNat = 0x22000000 ∧
  ∀ s : State,
    (¬ s.argsInRange → exec .xmwrite s =
      .next { s with res := 0x02#8, hostWords := s.hostWords.tail }) ∧
    (s.argsInRange → s.secmode = .unknown → exec .xmwrite s =
      .next { s with res := 0x03#8, hostWords := s.hostWords.tail }) ∧
    (s.argsInRange → s.secmode = .sealed → exec .xmwrite s =
      .next { s with rerr := 0x00#8, orig := .sealed, chg := false, e := 0x00#8, ph := .wSec,
                     hostWords := s.hostWords.tail }) ∧
    (s.argsInRange → s.secmode = .unsealed ∨ s.secmode = .fullAccess → exec .xmwrite s =
      .next { s with rerr := 0x00#8, orig := s.secmode, chg := false, e := 0x00#8, ph := .wFrame,
                     hostWords := s.hostWords.tail })

/-- R141 for XMREAD: RLEN and LENBAD are cleared even when a check fails. -/
def Obligations.XmreadEntry : Prop :=
  (encode .xmread).toNat = 0x23000000 ∧
  ∀ s : State,
    (¬ s.argsInRange → exec .xmread s =
      .next { s with rlen := 0x00#8, flags := s.flags &&& 1#2, res := 0x02#8,
                     hostWords := s.hostWords.tail }) ∧
    (s.argsInRange → s.secmode = .unknown → exec .xmread s =
      .next { s with rlen := 0x00#8, flags := s.flags &&& 1#2, res := 0x03#8,
                     hostWords := s.hostWords.tail }) ∧
    (s.argsInRange → s.secmode = .sealed → exec .xmread s =
      .next { s with rlen := 0x00#8, flags := s.flags &&& 1#2, rerr := 0x00#8, orig := .sealed,
                     chg := false, e := 0x00#8, ph := .rSec, hostWords := s.hostWords.tail }) ∧
    (s.argsInRange → s.secmode = .unsealed ∨ s.secmode = .fullAccess → exec .xmread s =
      .next { s with rlen := 0x00#8, flags := s.flags &&& 1#2, rerr := 0x00#8, orig := s.secmode,
                     chg := false, e := 0x00#8, ph := .rAddr, hostWords := s.hostWords.tail })

/-- R142: the implicit unseal of both transfers. -/
def Obligations.ImplicitUnsealPhase : Prop :=
  ∀ (s : State) (rest : List SecAnswer) (c : ErrCode),
    (s.ph = .wSec → s.secIn = .ok :: rest → step s =
      .next { s with secmode := .unsealed, chg := true, ph := .wFrame, secIn := rest,
                     history := s.history ++ [.secreq .unsealed .ok] }) ∧
    (s.ph = .rSec → s.secIn = .ok :: rest → step s =
      .next { s with secmode := .unsealed, chg := true, ph := .rAddr, secIn := rest,
                     history := s.history ++ [.secreq .unsealed .ok] }) ∧
    (s.ph = .wSec ∨ s.ph = .rSec → s.secIn = .err c :: rest → step s =
      .next { s with res := c.code, ph := .idle, secIn := rest,
                     history := s.history ++ [.secreq .unsealed (.err c)] })

/-- R143: the address bytes are written and the head sent; the step stores to no other byte. -/
def Obligations.WriteFramePhase : Prop :=
  ∀ (s : State) (answer : TwAnswer) (rest : List TwAnswer), s.ph = .wFrame →
    s.twIn = answer :: rest → ∃ t, step s = .next t ∧
      t.bufByte 0 = s.lowAddr ∧ t.bufByte 1 = s.highAddr ∧
      (∀ j, j ≠ 0 → j ≠ 1 → t.bufByte j = s.bufByte j) ∧
      t = { s with buf := t.buf, twIn := rest,
                   history := s.history ++ [.tw Config.regMac s.writeHead answer],
                   ph := match answer with
                     | .ok => .wDly1
                     | .ioError => .xRest
                   e := match answer with
                     | .ok => s.e
                     | .ioError => 0x01#8 }

/-- R144, R146: the two settle delays. -/
def Obligations.SettleDelayPhases : Prop :=
  0 < tSettle ∧ ∀ (s : State) (n : Nat), s.sleepIn = n + 1 →
    (s.ph = .wDly1 → step s =
      .next { s with ph := .wSum, sleepIn := n, history := s.history ++ [.sleep tSettle] }) ∧
    (s.ph = .wDly2 → step s =
      .next { s with ph := .wStat, sleepIn := n, history := s.history ++ [.sleep tSettle] })

/-- R145: CSUM, BUF[34], BUF[35] and the trailer, from the head as the buffer holds it; and, once W_FRAME has
stored the address bytes, the buffer and CSUM are what XMCOMP would produce. StepKeepsTheInvariant says that
they are stored whenever a run is at W_SUM (`addressStored`). -/
def Obligations.WriteSumPhase : Prop :=
  ∀ (s : State) (answer : TwAnswer) (rest : List TwAnswer), s.ph = .wSum → s.argsInRange →
    s.twIn = answer :: rest → ∃ t, step s = .next t ∧
      t.csum = checksum ((List.range (s.len.toNat + 2)).map s.bufByte) ∧
      t.bufByte 34 = t.csum ∧ (t.bufByte 35).toNat = s.len.toNat + 4 ∧
      (∀ j, j ≠ 34 → j ≠ 35 → t.bufByte j = s.bufByte j) ∧
      (s.echoOk → ∃ u, exec .xmcomp s = .next u ∧ u.csum = t.csum ∧
        ∀ j, u.bufByte j = t.bufByte j) ∧
      t = { s with buf := t.buf, csum := t.csum, twIn := rest,
                   history := s.history ++ [.tw Config.regMacSum [t.csum, t.bufByte 35] answer],
                   ph := match answer with
                     | .ok => .wDly2
                     | .ioError => .xRest
                   e := match answer with
                     | .ok => s.e
                     | .ioError => 0x01#8 }

/-- R147, R65: the status read back; only bit 15 decides. -/
def Obligations.WriteStatusPhase : Prop :=
  ∀ (s : State) (rest : List (TrAnswer 2)) (data : Bytes 2), s.ph = .wStat →
    (s.statusIn = .ok data :: rest → step s =
      .next { s with stat := statusOf data, statusIn := rest, ph := .xRest,
                     e := if 32768 ≤ (statusOf data).toNat then 0x07#8 else 0x00#8,
                     history := s.history ++ [.tr Config.regControl [] 2 (.ok data)] }) ∧
    (s.statusIn = .ioError :: rest → step s =
      .next { s with statusIn := rest, ph := .xRest, e := 0x01#8,
                     history := s.history ++ [.tr Config.regControl [] 2 .ioError] })

/-- R150: the address is sent; the buffer is not written. -/
def Obligations.ReadAddressPhase : Prop :=
  ∀ (s : State) (rest : List TwAnswer), s.ph = .rAddr →
    (s.twIn = .ok :: rest → step s =
      .next { s with ph := .rFrame, twIn := rest,
                     history := s.history ++ [.tw Config.regMac [s.lowAddr, s.highAddr] .ok] }) ∧
    (s.twIn = .ioError :: rest → step s =
      .next { s with ph := .xRest, e := 0x01#8, twIn := rest, history := s.history ++
                       [.tw Config.regMac [s.lowAddr, s.highAddr] .ioError] })

/-- R151: the whole buffer is replaced, or none of it. -/
def Obligations.ReadFramePhase : Prop :=
  ∀ (s : State) (rest : List (TrAnswer 36)) (data : Bytes 36), s.ph = .rFrame →
    (s.frameIn = .ok data :: rest → ∃ t, step s = .next t ∧ bufWf t.buf = true ∧
      (∀ i < 36, some (t.bufByte i) = data.bytes[i]?) ∧
      t = { s with buf := t.buf, ph := .rVal, frameIn := rest,
                   history := s.history ++ [.tr Config.regMac [] 36 (.ok data)] }) ∧
    (s.frameIn = .ioError :: rest → step s =
      .next { s with ph := .xRest, e := 0x01#8, frameIn := rest,
                     history := s.history ++ [.tr Config.regMac [] 36 .ioError] })

/-- R152 with R134: the validation of the frame read; no event. -/
def Obligations.ReadValidationPhase : Prop :=
  ∀ s : State, s.ph = .rVal →
    (¬ s.echoOk → step s = .next { s with e := 0x05#8, ph := .xRest }) ∧
    (s.echoOk → ¬ s.lengthOk → step s =
      .next { s with flags := s.flags ||| 2#2, e := 0x06#8, ph := .xRest }) ∧
    (s.echoOk → s.lengthOk → s.frameSum ≠ s.bufByte 34 → step s =
      .next { s with csum := s.frameSum, e := 0x06#8, ph := .xRest }) ∧
    (s.echoOk → s.lengthOk → s.frameSum = s.bufByte 34 → step s =
      .next { s with csum := s.frameSum, rlen := BitVec.ofNat 8 s.effectiveLength, e := 0x00#8,
                     ph := .xRest })

/-- R155: the restoration and the result. -/
def Obligations.RestorationPhase : Prop :=
  ∀ (s : State) (rest : List SecAnswer) (answer : SecAnswer), s.ph = .xRest →
    (s.chg = false → step s =
      .next { s with res := if s.e = 0x00#8 then s.rerr else s.e, ph := .idle }) ∧
    (s.chg = true → s.secIn = answer :: rest → step s =
      .next { s with secmode := match answer with
                       | .ok => s.orig
                       | .err _ => s.secmode
                     rerr := answer.restoreCode
                     res := if s.e = 0x00#8 then answer.restoreCode else s.e
                     ph := .idle
                     secIn := rest
                     history := s.history ++ [.secreq s.orig answer] })

/-! ## Transfers: whole runs -/

/-- R149, R156, R157: every XMWRITE that passes its entry checks, with every combination of answers. If the
environment answers (`writeReady`: the answers stand in State, assumption 4; without them R203 lets the
transfer wait for ever), it ends within eight steps, with one of the event sequences R157 lists, RES and RERR
as R149 and R155 say, the security mode as R156 says, and every register the host can read and every byte of
the buffer as the body left them. -/
def Obligations.EveryWriteRunIsListed : Prop :=
  ∀ (s : State) (rest : List Word), s.presents .xmwrite rest → s.argsInRange →
    s.secmode ≠ .unknown → s.writeReady →
    ∃ n t events, n ≤ 8 ∧ s.after n = .next t ∧ t.ph = .idle ∧ t.hostWords = rest ∧
      t.history = s.history ++ events ∧
      t.addr = s.addr ∧ t.len = s.len ∧ t.mask = s.mask ∧ t.out = s.out ∧ t.acc = s.acc ∧
      t.rlen = s.rlen ∧ t.flags = s.flags ∧
      (∀ j, 2 ≤ j → j ≤ 33 → t.bufByte j = s.bufByte j) ∧
      ((∃ c, s.secmode = .sealed ∧ events = [.secreq .unsealed (.err c)] ∧ t.res = c.code ∧
          t.rerr = 0x00#8 ∧ t.secmode = .sealed ∧ t.buf = s.buf ∧ t.csum = s.csum ∧
          t.stat = s.stat) ∨
        ∃ body code, WriteBody s t body code ∧ Wrapped s body events t.rerr ∧
          t.res = (if code = 0x00#8 then t.rerr else code) ∧
          t.secmode = (if t.rerr = 0x00#8 then s.secmode else .unsealed))

/-- R154, R156, R157: the same of every XMREAD, within six steps, if the environment answers (`readReady`,
assumption 4): the received frame is in the buffer, CSUM and LENBAD are what its validation left, and RLEN is
its effective length when the validation passed, whatever became of the restoration. -/
def Obligations.EveryReadRunIsListed : Prop :=
  ∀ (s : State) (rest : List Word), s.presents .xmread rest → s.argsInRange →
    s.secmode ≠ .unknown → s.readReady →
    ∃ n t events, n ≤ 6 ∧ s.after n = .next t ∧ t.ph = .idle ∧ t.hostWords = rest ∧
      t.history = s.history ++ events ∧
      t.addr = s.addr ∧ t.len = s.len ∧ t.mask = s.mask ∧ t.out = s.out ∧ t.acc = s.acc ∧
      t.stat = s.stat ∧ t.flagM = s.flagM ∧
      ((∃ c, s.secmode = .sealed ∧ events = [.secreq .unsealed (.err c)] ∧ t.res = c.code ∧
          t.rerr = 0x00#8 ∧ t.secmode = .sealed ∧ s.noFrameRead t) ∨
        ∃ body code, ReadBody s t body code ∧ Wrapped s body events t.rerr ∧
          t.res = (if code = 0x00#8 then t.rerr else code) ∧
          t.secmode = (if t.rerr = 0x00#8 then s.secmode else .unsealed))

/-- R149: the write that goes well from Unsealed or FullAccess, step for step: seven steps, five events, and
the whole final state (ORIG, CHG and E, which have no meaning in IDLE, as assumption 6 leaves them). -/
def Obligations.DirectWriteSendsTheFrame : Prop :=
  ∀ (s : State) (rest : List Word) (data : Bytes 2) (tw : List TwAnswer) (st : List (TrAnswer 2))
    (n : Nat), s.presents .xmwrite rest → s.argsInRange →
    s.secmode = .unsealed ∨ s.secmode = .fullAccess →
    s.twIn = .ok :: .ok :: tw → s.statusIn = .ok data :: st → s.sleepIn = n + 2 →
    ∃ t, s.after 7 = .next t ∧
      t.bufByte 0 = s.lowAddr ∧ t.bufByte 1 = s.highAddr ∧ t.bufByte 34 = checksum s.writeHead ∧
      (t.bufByte 35).toNat = s.len.toNat + 4 ∧
      (∀ j, j ≠ 0 → j ≠ 1 → j ≠ 34 → j ≠ 35 → t.bufByte j = s.bufByte j) ∧
      t = { s with
        buf := t.buf, csum := checksum s.writeHead, stat := statusOf data, rerr := 0x00#8
        res := if (statusOf data).getLsbD 15 then 0x07#8 else 0x00#8
        e := if (statusOf data).getLsbD 15 then 0x07#8 else 0x00#8
        orig := s.secmode, chg := false, hostWords := rest, twIn := tw, statusIn := st
        sleepIn := n
        history := s.history ++ [.tw Config.regMac s.writeHead .ok, .sleep tSettle,
          .tw Config.regMacSum s.writeTrailer .ok, .sleep tSettle,
          .tr Config.regControl [] 2 (.ok data)] }

/-- R203, R207: no transfer runs for ever if the environment answers: from any phase
and any state, the block is ready again within seven steps (the answers to come stand in State: assumption
4). -/
def Obligations.AnsweredTransferEnds : Prop :=
  ∀ s : State, s.ph ≠ .idle → s.environmentReady →
    ∃ n t, n ≤ 7 ∧ s.after n = .next t ∧ t.ph = .idle ∧ t.hostWords = s.hostWords

/-- R140, R155: a command that changed the mode always emits its re-seal before it ends, whatever its body
did; and SECMODE then ends as ORIG, or stays Unsealed with a nonzero RERR. -/
def Obligations.ChangedModeIsAlwaysRestoredOrReported : Prop :=
  ∀ (s t : State), s.Inv → s.ph ≠ .idle → s.chg = true → step s = .next t → t.ph = .idle →
    ∃ answer, t.history = s.history ++ [.secreq .sealed answer] ∧
      ((answer = .ok ∧ t.secmode = .sealed ∧ t.rerr = 0x00#8) ∨
        (∃ c, answer = .err c ∧ t.secmode = .unsealed ∧ t.rerr = c.code ∧ t.rerr ≠ 0x00#8 ∧
          t.res ≠ 0x00#8))

/-! ## Status commands -/

/-- R161, R65: the status read, little-endian; STAT is unchanged on IoError. -/
def Obligations.StgetReadsTheStatus : Prop :=
  (encode .stget).toNat = 0x30000000 ∧
  ∀ (s : State) (rest : List (TrAnswer 2)) (data : Bytes 2),
    (s.statusIn = .ok data :: rest → exec .stget s =
      .next { s with stat := statusOf data, res := 0x00#8, hostWords := s.hostWords.tail,
                     statusIn := rest,
                     history := s.history ++ [.tr Config.regControl [] 2 (.ok data)] }) ∧
    (s.statusIn = .ioError :: rest → exec .stget s =
      .next { s with res := 0x01#8, hostWords := s.hostWords.tail, statusIn := rest,
                     history := s.history ++ [.tr Config.regControl [] 2 .ioError] })

/-- R162. -/
def Obligations.StdecLoadsTheDecoder : Prop :=
  (∀ imm : Half, (encode (.stdec imm)).toNat = 0x31000000 + imm.toNat) ∧
  ∀ (imm : Half) (s : State), exec (.stdec imm) s =
    .next { s with stat := imm, res := 0x00#8, hostWords := s.hostWords.tail }

/-- R163: M is the masked compare; LENBAD stays. -/
def Obligations.SttestComparesUnderTheMask : Prop :=
  (∀ imm : Half, (encode (.sttest imm)).toNat = 0x32000000 + imm.toNat) ∧
  ∀ (imm : Half) (s : State), exec (.sttest imm) s =
    .next { s with flags := (s.flags &&& 2#2) ||| (if s.stat &&& s.mask = imm then 1#2 else 0#2),
                   res := 0x00#8, hostWords := s.hostWords.tail }

/-- R164: the mode is SEC_DECODE of bits 14:13; Unknown is written too, and ends with SecurityUnknown. -/
def Obligations.StseedSeedsTheMode : Prop :=
  (encode .stseed).toNat = 0x33000000 ∧
  ∀ s : State, exec .stseed s =
    .next { s with secmode := secDecode (BitVec.ofNat 2 (s.stat.toNat / 8192 % 4)),
                   res := if secDecode (BitVec.ofNat 2 (s.stat.toNat / 8192 % 4)) = .unknown
                     then 0x03#8 else 0x00#8,
                   hostWords := s.hostWords.tail }

/-- R21 to R32, R36, R37, R160: the twelve registers and the six views as the ready host reads them, in numbers,
SECMODE and SECDEC in the codes of R28; and R33, R37: while a transfer runs the host can read nothing but
`ready`, which is 0 (that it reads nothing else is assumption 8). -/
def Obligations.ViewsDecodeTheStatusWord : Prop :=
  ∀ s : State,
    (s.ph ≠ .idle → s.hostRead .ready = some 0#16 ∧ ∀ r : HostReg, r ≠ .ready → s.hostRead r = none) ∧
    (s.ph = .idle → s.hostRead .ready = some 1#16 ∧
    (s.hostRead .addr).map BitVec.toNat = some s.addr.toNat ∧
    (s.hostRead .len).map BitVec.toNat = some s.len.toNat ∧
    (s.hostRead .mask).map BitVec.toNat = some s.mask.toNat ∧
    (s.hostRead .out).map BitVec.toNat = some s.out.toNat ∧
    (s.hostRead .acc).map BitVec.toNat = some s.acc.toNat ∧
    (s.hostRead .csum).map BitVec.toNat = some s.csum.toNat ∧
    (s.hostRead .stat).map BitVec.toNat = some s.stat.toNat ∧
    (s.hostRead .secmode).map BitVec.toNat = some (match s.secmode with
      | .unknown => 0
      | .sealed => 1
      | .unsealed => 2
      | .fullAccess => 3) ∧
    (s.hostRead .res).map BitVec.toNat = some s.res.toNat ∧
    (s.hostRead .rerr).map BitVec.toNat = some s.rerr.toNat ∧
    (s.hostRead .rlen).map BitVec.toNat = some s.rlen.toNat ∧
    (s.hostRead .flags).map BitVec.toNat = some (2 * s.flagLenbad.toNat + s.flagM.toNat) ∧
    (s.hostRead .run).map BitVec.toNat = some (s.stat.toNat % 2) ∧
    (s.hostRead .init).map BitVec.toNat = some (s.stat.toNat / 128 % 2) ∧
    (s.hostRead .sec).map BitVec.toNat = some (s.stat.toNat / 8192 % 4) ∧
    (s.hostRead .xmfail).map BitVec.toNat = some (s.stat.toNat / 32768) ∧
    (s.hostRead .secdec).map BitVec.toNat =
      some (match secDecode (BitVec.ofNat 2 (s.stat.toNat / 8192 % 4)) with
        | .unknown => 0
        | .sealed => 1
        | .unsealed => 2
        | .fullAccess => 3))

/-- R99, R195 step 4: the pseudo-instruction WAITINIT: three steps after which M is bit 7 of the word the
device answered. -/
def Obligations.WaitinitPollsInitComplete : Prop :=
  ∀ (s : State) (rest : List Word) (data : Bytes 2) (st : List (TrAnswer 2)), s.ph = .idle →
    s.hostWords = Pseudo.waitinit.expand.map encode ++ rest → s.statusIn = .ok data :: st →
    ∃ t, s.after 3 = .next t ∧ t.flagM = (statusOf data).getLsbD 7 ∧ t.stat = statusOf data ∧
      t.mask = 0x0080#16 ∧ t.res = 0x00#8 ∧ t.hostWords = rest ∧ t.flagLenbad = s.flagLenbad

/-! ## Whole-machine rules -/

/-- R39, R190: what reset leaves; each buffer byte is a free value. -/
def Obligations.ResetValues : Prop :=
  State.reset.secmode = .unknown ∧ State.reset.addr = 0#16 ∧ State.reset.mask = 0#16 ∧
  State.reset.out = 0#16 ∧ State.reset.stat = 0#16 ∧ State.reset.len = 0#8 ∧
  State.reset.acc = 0#8 ∧ State.reset.csum = 0#8 ∧ State.reset.res = 0#8 ∧
  State.reset.rerr = 0#8 ∧ State.reset.rlen = 0#8 ∧ State.reset.flagM = false ∧
  State.reset.flagLenbad = false ∧ State.reset.ph = .idle ∧ State.reset.ready = true ∧
  State.reset.orig = .unknown ∧ State.reset.chg = false ∧ State.reset.e = 0#8 ∧
  State.reset.history = [] ∧ ∀ i < 36, State.reset.bufByte i = Config.bufReset i

/-- The invariant holds at reset. -/
def Obligations.ResetSatisfiesTheInvariant : Prop := State.reset.Inv

/-- Every step keeps the invariant, from every state that has it. -/
def Obligations.StepKeepsTheInvariant : Prop :=
  ∀ (s t : State), s.Inv → step s = .next t → t.Inv

/-- R21 to R25: "written only by": a step that changes ADDR, LEN, MASK, OUT or ACC ran one of the commands the
rules name. -/
def Obligations.OperandRegistersHaveTheirWriters : Prop :=
  ∀ (s t : State), step s = .next t →
    (t.addr ≠ s.addr → ∃ v rest, s.presents (.setaddr v) rest ∧ t.addr = v) ∧
    (t.len ≠ s.len → ∃ v rest, s.presents (.setlen v) rest ∧ t.len = v) ∧
    (t.mask ≠ s.mask → ∃ v rest, s.presents (.setmask v) rest ∧ t.mask = v) ∧
    (t.out ≠ s.out → (∃ a rest, s.presents (.bufrd a) rest) ∨ (∃ rest, s.presents .ckfin rest) ∨
      ∃ a rest, s.presents (.ckbuf a) rest) ∧
    (t.acc ≠ s.acc → (∃ rest, s.presents .ckclr rest) ∨ ∃ b rest, s.presents (.ckadd b) rest)

/-- R28: a step that changes SECMODE ran STSEED or SETMODE, or had a security request answered ok; and only a
failed STSEED makes it Unknown. -/
def Obligations.SecmodeHasItsWriters : Prop :=
  ∀ (s t : State), s.Inv → step s = .next t → t.secmode ≠ s.secmode →
    (∃ rest, s.presents .stseed rest ∧ (t.secmode = .unknown → t.res = 0x03#8)) ∨
    (∃ a rest, s.presents (.setmode a) rest ∧ t.secmode ≠ .unknown) ∨
    (∃ m, s.ph ≠ .idle ∧ t.history = s.history ++ [.secreq m .ok] ∧ t.secmode = m ∧ m ≠ .unknown)

/-- R26, R27, R30, R31, R32: the writers of CSUM, STAT, RERR, RLEN and the two flags. -/
def Obligations.StatusRegistersHaveTheirWriters : Prop :=
  ∀ (s t : State), step s = .next t →
    (t.csum ≠ s.csum → (∃ rest, s.presents .ckfin rest) ∨ (∃ a rest, s.presents (.ckbuf a) rest) ∨
      (∃ rest, s.presents .xmcomp rest) ∨ (∃ rest, s.presents .xmval rest) ∨ s.ph = .wSum ∨
      s.ph = .rVal) ∧
    (t.stat ≠ s.stat → (∃ rest, s.presents .stget rest) ∨ (∃ v rest, s.presents (.stdec v) rest) ∨
      s.ph = .wStat) ∧
    (t.rerr ≠ s.rerr → (∃ rest, s.presents .xmwrite rest) ∨ (∃ rest, s.presents .xmread rest) ∨
      s.ph = .xRest) ∧
    (t.rlen ≠ s.rlen → (∃ rest, s.presents .xmval rest) ∨ (∃ rest, s.presents .xmread rest) ∨
      s.ph = .rVal) ∧
    (t.flagM ≠ s.flagM → ∃ v rest, s.presents (.sttest v) rest) ∧
    (t.flagLenbad ≠ s.flagLenbad → (∃ rest, s.presents .xmval rest) ∨
      (∃ rest, s.presents .xmread rest) ∨ s.ph = .rVal)

/-- R35: a step that changes a byte of the buffer ran one of the commands R35 names, and at the bytes it
names. -/
def Obligations.BufferBytesHaveTheirWriters : Prop :=
  ∀ (s t : State) (j : Nat), step s = .next t → t.bufByte j ≠ s.bufByte j →
    (∃ a b rest, s.presents (.bufwr a b) rest ∧ a.toNat = j) ∨
    ((∃ rest, s.presents .xmcomp rest) ∧ (j = 0 ∨ j = 1 ∨ j = 34 ∨ j = 35)) ∨
    (s.ph = .wFrame ∧ (j = 0 ∨ j = 1)) ∨ (s.ph = .wSum ∧ (j = 34 ∨ j = 35)) ∨ s.ph = .rFrame

/-- R29, R170, U10: RES gets one of the engine's own codes, or the code of the security answer that this step
took: Timeout and DeviceIdentityMismatch are never raised, and a code above 0x0A never comes from the engine. -/
def Obligations.ResHoldsEngineOrPortCodes : Prop :=
  ∀ (s t : State), s.Inv → step s = .next t →
    t.res = s.res ∨
    t.res ∈ [0x00#8, 0x01#8, 0x02#8, 0x03#8, 0x05#8, 0x06#8, 0x07#8, 0x0A#8] ∨
    ∃ (m : SecMode) (c : ErrCode) (rest : List SecAnswer), s.secIn = .err c :: rest ∧ t.secIn = rest ∧
      t.history = s.history ++ [.secreq m (.err c)] ∧ t.res = c.code

/-- R179: every command but XMWRITE and XMREAD, and the two whose business the mode is, does the same in every
security mode. -/
def Obligations.OtherCommandsIgnoreTheMode : Prop :=
  ∀ (i : Instr) (s t : State) (m : SecMode), i ≠ .xmwrite → i ≠ .xmread → i ≠ .stseed →
    (∀ a, i ≠ .setmode a) → exec i s = .next t →
      exec i { s with secmode := m } = .next { t with secmode := m }

/-! ## Parameters -/

/-- R7, D9: SEC_DECODE gives each of the four modes exactly one 2-bit code, whichever of the admitted
functions it is; and every function that does so is one of them, so nothing admissible is left out. -/
def Obligations.SecDecodeGivesEachModeOneCode : Prop :=
  (∀ (k : Fin 24) (m : SecMode), ∃ c, secDecodeOf k c = m ∧ ∀ d, secDecodeOf k d = m → d = c) ∧
  (∀ f : BitVec 2 → SecMode, (∀ m, ∃ c, f c = m ∧ ∀ d, f d = m → d = c) →
    ∃ k : Fin 24, ∀ c, f c = secDecodeOf k c) ∧
  ∃ k : Fin 24, ∀ c, secDecode c = secDecodeOf k c
end

