-- ==== Sys2Proof/Laws/State.lean ====
section
/-! SUPPORT. What each one-field update of the state leaves in each field: every lemma is true by `rfl`, so
that no later proof unfolds a record update. -/

namespace Sys2Proof.Machine

/-! ### `setAddr` -/

section setAddr
variable (s : State) (v : Half)

@[simp] theorem State.setAddr_addr : (s.setAddr v).addr = v := rfl
@[simp] theorem State.setAddr_len : (s.setAddr v).len = s.len := rfl
@[simp] theorem State.setAddr_mask : (s.setAddr v).mask = s.mask := rfl
@[simp] theorem State.setAddr_out : (s.setAddr v).out = s.out := rfl
@[simp] theorem State.setAddr_acc : (s.setAddr v).acc = s.acc := rfl
@[simp] theorem State.setAddr_csum : (s.setAddr v).csum = s.csum := rfl
@[simp] theorem State.setAddr_stat : (s.setAddr v).stat = s.stat := rfl
@[simp] theorem State.setAddr_secmode : (s.setAddr v).secmode = s.secmode := rfl
@[simp] theorem State.setAddr_res : (s.setAddr v).res = s.res := rfl
@[simp] theorem State.setAddr_rerr : (s.setAddr v).rerr = s.rerr := rfl
@[simp] theorem State.setAddr_rlen : (s.setAddr v).rlen = s.rlen := rfl
@[simp] theorem State.setAddr_flags : (s.setAddr v).flags = s.flags := rfl
@[simp] theorem State.setAddr_buf : (s.setAddr v).buf = s.buf := rfl
@[simp] theorem State.setAddr_ph : (s.setAddr v).ph = s.ph := rfl
@[simp] theorem State.setAddr_orig : (s.setAddr v).orig = s.orig := rfl
@[simp] theorem State.setAddr_chg : (s.setAddr v).chg = s.chg := rfl
@[simp] theorem State.setAddr_e : (s.setAddr v).e = s.e := rfl
@[simp] theorem State.setAddr_history : (s.setAddr v).history = s.history := rfl
@[simp] theorem State.setAddr_hostWords : (s.setAddr v).hostWords = s.hostWords := rfl
@[simp] theorem State.setAddr_twIn : (s.setAddr v).twIn = s.twIn := rfl
@[simp] theorem State.setAddr_statusIn : (s.setAddr v).statusIn = s.statusIn := rfl
@[simp] theorem State.setAddr_frameIn : (s.setAddr v).frameIn = s.frameIn := rfl
@[simp] theorem State.setAddr_sleepIn : (s.setAddr v).sleepIn = s.sleepIn := rfl
@[simp] theorem State.setAddr_secIn : (s.setAddr v).secIn = s.secIn := rfl

end setAddr

/-! ### `setLen` -/

section setLen
variable (s : State) (v : Byte)

@[simp] theorem State.setLen_addr : (s.setLen v).addr = s.addr := rfl
@[simp] theorem State.setLen_len : (s.setLen v).len = v := rfl
@[simp] theorem State.setLen_mask : (s.setLen v).mask = s.mask := rfl
@[simp] theorem State.setLen_out : (s.setLen v).out = s.out := rfl
@[simp] theorem State.setLen_acc : (s.setLen v).acc = s.acc := rfl
@[simp] theorem State.setLen_csum : (s.setLen v).csum = s.csum := rfl
@[simp] theorem State.setLen_stat : (s.setLen v).stat = s.stat := rfl
@[simp] theorem State.setLen_secmode : (s.setLen v).secmode = s.secmode := rfl
@[simp] theorem State.setLen_res : (s.setLen v).res = s.res := rfl
@[simp] theorem State.setLen_rerr : (s.setLen v).rerr = s.rerr := rfl
@[simp] theorem State.setLen_rlen : (s.setLen v).rlen = s.rlen := rfl
@[simp] theorem State.setLen_flags : (s.setLen v).flags = s.flags := rfl
@[simp] theorem State.setLen_buf : (s.setLen v).buf = s.buf := rfl
@[simp] theorem State.setLen_ph : (s.setLen v).ph = s.ph := rfl
@[simp] theorem State.setLen_orig : (s.setLen v).orig = s.orig := rfl
@[simp] theorem State.setLen_chg : (s.setLen v).chg = s.chg := rfl
@[simp] theorem State.setLen_e : (s.setLen v).e = s.e := rfl
@[simp] theorem State.setLen_history : (s.setLen v).history = s.history := rfl
@[simp] theorem State.setLen_hostWords : (s.setLen v).hostWords = s.hostWords := rfl
@[simp] theorem State.setLen_twIn : (s.setLen v).twIn = s.twIn := rfl
@[simp] theorem State.setLen_statusIn : (s.setLen v).statusIn = s.statusIn := rfl
@[simp] theorem State.setLen_frameIn : (s.setLen v).frameIn = s.frameIn := rfl
@[simp] theorem State.setLen_sleepIn : (s.setLen v).sleepIn = s.sleepIn := rfl
@[simp] theorem State.setLen_secIn : (s.setLen v).secIn = s.secIn := rfl

end setLen

/-! ### `setMask` -/

section setMask
variable (s : State) (v : Half)

@[simp] theorem State.setMask_addr : (s.setMask v).addr = s.addr := rfl
@[simp] theorem State.setMask_len : (s.setMask v).len = s.len := rfl
@[simp] theorem State.setMask_mask : (s.setMask v).mask = v := rfl
@[simp] theorem State.setMask_out : (s.setMask v).out = s.out := rfl
@[simp] theorem State.setMask_acc : (s.setMask v).acc = s.acc := rfl
@[simp] theorem State.setMask_csum : (s.setMask v).csum = s.csum := rfl
@[simp] theorem State.setMask_stat : (s.setMask v).stat = s.stat := rfl
@[simp] theorem State.setMask_secmode : (s.setMask v).secmode = s.secmode := rfl
@[simp] theorem State.setMask_res : (s.setMask v).res = s.res := rfl
@[simp] theorem State.setMask_rerr : (s.setMask v).rerr = s.rerr := rfl
@[simp] theorem State.setMask_rlen : (s.setMask v).rlen = s.rlen := rfl
@[simp] theorem State.setMask_flags : (s.setMask v).flags = s.flags := rfl
@[simp] theorem State.setMask_buf : (s.setMask v).buf = s.buf := rfl
@[simp] theorem State.setMask_ph : (s.setMask v).ph = s.ph := rfl
@[simp] theorem State.setMask_orig : (s.setMask v).orig = s.orig := rfl
@[simp] theorem State.setMask_chg : (s.setMask v).chg = s.chg := rfl
@[simp] theorem State.setMask_e : (s.setMask v).e = s.e := rfl
@[simp] theorem State.setMask_history : (s.setMask v).history = s.history := rfl
@[simp] theorem State.setMask_hostWords : (s.setMask v).hostWords = s.hostWords := rfl
@[simp] theorem State.setMask_twIn : (s.setMask v).twIn = s.twIn := rfl
@[simp] theorem State.setMask_statusIn : (s.setMask v).statusIn = s.statusIn := rfl
@[simp] theorem State.setMask_frameIn : (s.setMask v).frameIn = s.frameIn := rfl
@[simp] theorem State.setMask_sleepIn : (s.setMask v).sleepIn = s.sleepIn := rfl
@[simp] theorem State.setMask_secIn : (s.setMask v).secIn = s.secIn := rfl

end setMask

/-! ### `setOut` -/

section setOut
variable (s : State) (v : Half)

@[simp] theorem State.setOut_addr : (s.setOut v).addr = s.addr := rfl
@[simp] theorem State.setOut_len : (s.setOut v).len = s.len := rfl
@[simp] theorem State.setOut_mask : (s.setOut v).mask = s.mask := rfl
@[simp] theorem State.setOut_out : (s.setOut v).out = v := rfl
@[simp] theorem State.setOut_acc : (s.setOut v).acc = s.acc := rfl
@[simp] theorem State.setOut_csum : (s.setOut v).csum = s.csum := rfl
@[simp] theorem State.setOut_stat : (s.setOut v).stat = s.stat := rfl
@[simp] theorem State.setOut_secmode : (s.setOut v).secmode = s.secmode := rfl
@[simp] theorem State.setOut_res : (s.setOut v).res = s.res := rfl
@[simp] theorem State.setOut_rerr : (s.setOut v).rerr = s.rerr := rfl
@[simp] theorem State.setOut_rlen : (s.setOut v).rlen = s.rlen := rfl
@[simp] theorem State.setOut_flags : (s.setOut v).flags = s.flags := rfl
@[simp] theorem State.setOut_buf : (s.setOut v).buf = s.buf := rfl
@[simp] theorem State.setOut_ph : (s.setOut v).ph = s.ph := rfl
@[simp] theorem State.setOut_orig : (s.setOut v).orig = s.orig := rfl
@[simp] theorem State.setOut_chg : (s.setOut v).chg = s.chg := rfl
@[simp] theorem State.setOut_e : (s.setOut v).e = s.e := rfl
@[simp] theorem State.setOut_history : (s.setOut v).history = s.history := rfl
@[simp] theorem State.setOut_hostWords : (s.setOut v).hostWords = s.hostWords := rfl
@[simp] theorem State.setOut_twIn : (s.setOut v).twIn = s.twIn := rfl
@[simp] theorem State.setOut_statusIn : (s.setOut v).statusIn = s.statusIn := rfl
@[simp] theorem State.setOut_frameIn : (s.setOut v).frameIn = s.frameIn := rfl
@[simp] theorem State.setOut_sleepIn : (s.setOut v).sleepIn = s.sleepIn := rfl
@[simp] theorem State.setOut_secIn : (s.setOut v).secIn = s.secIn := rfl

end setOut

/-! ### `setAcc` -/

section setAcc
variable (s : State) (v : Byte)

@[simp] theorem State.setAcc_addr : (s.setAcc v).addr = s.addr := rfl
@[simp] theorem State.setAcc_len : (s.setAcc v).len = s.len := rfl
@[simp] theorem State.setAcc_mask : (s.setAcc v).mask = s.mask := rfl
@[simp] theorem State.setAcc_out : (s.setAcc v).out = s.out := rfl
@[simp] theorem State.setAcc_acc : (s.setAcc v).acc = v := rfl
@[simp] theorem State.setAcc_csum : (s.setAcc v).csum = s.csum := rfl
@[simp] theorem State.setAcc_stat : (s.setAcc v).stat = s.stat := rfl
@[simp] theorem State.setAcc_secmode : (s.setAcc v).secmode = s.secmode := rfl
@[simp] theorem State.setAcc_res : (s.setAcc v).res = s.res := rfl
@[simp] theorem State.setAcc_rerr : (s.setAcc v).rerr = s.rerr := rfl
@[simp] theorem State.setAcc_rlen : (s.setAcc v).rlen = s.rlen := rfl
@[simp] theorem State.setAcc_flags : (s.setAcc v).flags = s.flags := rfl
@[simp] theorem State.setAcc_buf : (s.setAcc v).buf = s.buf := rfl
@[simp] theorem State.setAcc_ph : (s.setAcc v).ph = s.ph := rfl
@[simp] theorem State.setAcc_orig : (s.setAcc v).orig = s.orig := rfl
@[simp] theorem State.setAcc_chg : (s.setAcc v).chg = s.chg := rfl
@[simp] theorem State.setAcc_e : (s.setAcc v).e = s.e := rfl
@[simp] theorem State.setAcc_history : (s.setAcc v).history = s.history := rfl
@[simp] theorem State.setAcc_hostWords : (s.setAcc v).hostWords = s.hostWords := rfl
@[simp] theorem State.setAcc_twIn : (s.setAcc v).twIn = s.twIn := rfl
@[simp] theorem State.setAcc_statusIn : (s.setAcc v).statusIn = s.statusIn := rfl
@[simp] theorem State.setAcc_frameIn : (s.setAcc v).frameIn = s.frameIn := rfl
@[simp] theorem State.setAcc_sleepIn : (s.setAcc v).sleepIn = s.sleepIn := rfl
@[simp] theorem State.setAcc_secIn : (s.setAcc v).secIn = s.secIn := rfl

end setAcc

/-! ### `setCsum` -/

section setCsum
variable (s : State) (v : Byte)

@[simp] theorem State.setCsum_addr : (s.setCsum v).addr = s.addr := rfl
@[simp] theorem State.setCsum_len : (s.setCsum v).len = s.len := rfl
@[simp] theorem State.setCsum_mask : (s.setCsum v).mask = s.mask := rfl
@[simp] theorem State.setCsum_out : (s.setCsum v).out = s.out := rfl
@[simp] theorem State.setCsum_acc : (s.setCsum v).acc = s.acc := rfl
@[simp] theorem State.setCsum_csum : (s.setCsum v).csum = v := rfl
@[simp] theorem State.setCsum_stat : (s.setCsum v).stat = s.stat := rfl
@[simp] theorem State.setCsum_secmode : (s.setCsum v).secmode = s.secmode := rfl
@[simp] theorem State.setCsum_res : (s.setCsum v).res = s.res := rfl
@[simp] theorem State.setCsum_rerr : (s.setCsum v).rerr = s.rerr := rfl
@[simp] theorem State.setCsum_rlen : (s.setCsum v).rlen = s.rlen := rfl
@[simp] theorem State.setCsum_flags : (s.setCsum v).flags = s.flags := rfl
@[simp] theorem State.setCsum_buf : (s.setCsum v).buf = s.buf := rfl
@[simp] theorem State.setCsum_ph : (s.setCsum v).ph = s.ph := rfl
@[simp] theorem State.setCsum_orig : (s.setCsum v).orig = s.orig := rfl
@[simp] theorem State.setCsum_chg : (s.setCsum v).chg = s.chg := rfl
@[simp] theorem State.setCsum_e : (s.setCsum v).e = s.e := rfl
@[simp] theorem State.setCsum_history : (s.setCsum v).history = s.history := rfl
@[simp] theorem State.setCsum_hostWords : (s.setCsum v).hostWords = s.hostWords := rfl
@[simp] theorem State.setCsum_twIn : (s.setCsum v).twIn = s.twIn := rfl
@[simp] theorem State.setCsum_statusIn : (s.setCsum v).statusIn = s.statusIn := rfl
@[simp] theorem State.setCsum_frameIn : (s.setCsum v).frameIn = s.frameIn := rfl
@[simp] theorem State.setCsum_sleepIn : (s.setCsum v).sleepIn = s.sleepIn := rfl
@[simp] theorem State.setCsum_secIn : (s.setCsum v).secIn = s.secIn := rfl

end setCsum

/-! ### `setStat` -/

section setStat
variable (s : State) (v : Half)

@[simp] theorem State.setStat_addr : (s.setStat v).addr = s.addr := rfl
@[simp] theorem State.setStat_len : (s.setStat v).len = s.len := rfl
@[simp] theorem State.setStat_mask : (s.setStat v).mask = s.mask := rfl
@[simp] theorem State.setStat_out : (s.setStat v).out = s.out := rfl
@[simp] theorem State.setStat_acc : (s.setStat v).acc = s.acc := rfl
@[simp] theorem State.setStat_csum : (s.setStat v).csum = s.csum := rfl
@[simp] theorem State.setStat_stat : (s.setStat v).stat = v := rfl
@[simp] theorem State.setStat_secmode : (s.setStat v).secmode = s.secmode := rfl
@[simp] theorem State.setStat_res : (s.setStat v).res = s.res := rfl
@[simp] theorem State.setStat_rerr : (s.setStat v).rerr = s.rerr := rfl
@[simp] theorem State.setStat_rlen : (s.setStat v).rlen = s.rlen := rfl
@[simp] theorem State.setStat_flags : (s.setStat v).flags = s.flags := rfl
@[simp] theorem State.setStat_buf : (s.setStat v).buf = s.buf := rfl
@[simp] theorem State.setStat_ph : (s.setStat v).ph = s.ph := rfl
@[simp] theorem State.setStat_orig : (s.setStat v).orig = s.orig := rfl
@[simp] theorem State.setStat_chg : (s.setStat v).chg = s.chg := rfl
@[simp] theorem State.setStat_e : (s.setStat v).e = s.e := rfl
@[simp] theorem State.setStat_history : (s.setStat v).history = s.history := rfl
@[simp] theorem State.setStat_hostWords : (s.setStat v).hostWords = s.hostWords := rfl
@[simp] theorem State.setStat_twIn : (s.setStat v).twIn = s.twIn := rfl
@[simp] theorem State.setStat_statusIn : (s.setStat v).statusIn = s.statusIn := rfl
@[simp] theorem State.setStat_frameIn : (s.setStat v).frameIn = s.frameIn := rfl
@[simp] theorem State.setStat_sleepIn : (s.setStat v).sleepIn = s.sleepIn := rfl
@[simp] theorem State.setStat_secIn : (s.setStat v).secIn = s.secIn := rfl

end setStat

/-! ### `setSecmode` -/

section setSecmode
variable (s : State) (v : SecMode)

@[simp] theorem State.setSecmode_addr : (s.setSecmode v).addr = s.addr := rfl
@[simp] theorem State.setSecmode_len : (s.setSecmode v).len = s.len := rfl
@[simp] theorem State.setSecmode_mask : (s.setSecmode v).mask = s.mask := rfl
@[simp] theorem State.setSecmode_out : (s.setSecmode v).out = s.out := rfl
@[simp] theorem State.setSecmode_acc : (s.setSecmode v).acc = s.acc := rfl
@[simp] theorem State.setSecmode_csum : (s.setSecmode v).csum = s.csum := rfl
@[simp] theorem State.setSecmode_stat : (s.setSecmode v).stat = s.stat := rfl
@[simp] theorem State.setSecmode_secmode : (s.setSecmode v).secmode = v := rfl
@[simp] theorem State.setSecmode_res : (s.setSecmode v).res = s.res := rfl
@[simp] theorem State.setSecmode_rerr : (s.setSecmode v).rerr = s.rerr := rfl
@[simp] theorem State.setSecmode_rlen : (s.setSecmode v).rlen = s.rlen := rfl
@[simp] theorem State.setSecmode_flags : (s.setSecmode v).flags = s.flags := rfl
@[simp] theorem State.setSecmode_buf : (s.setSecmode v).buf = s.buf := rfl
@[simp] theorem State.setSecmode_ph : (s.setSecmode v).ph = s.ph := rfl
@[simp] theorem State.setSecmode_orig : (s.setSecmode v).orig = s.orig := rfl
@[simp] theorem State.setSecmode_chg : (s.setSecmode v).chg = s.chg := rfl
@[simp] theorem State.setSecmode_e : (s.setSecmode v).e = s.e := rfl
@[simp] theorem State.setSecmode_history : (s.setSecmode v).history = s.history := rfl
@[simp] theorem State.setSecmode_hostWords : (s.setSecmode v).hostWords = s.hostWords := rfl
@[simp] theorem State.setSecmode_twIn : (s.setSecmode v).twIn = s.twIn := rfl
@[simp] theorem State.setSecmode_statusIn : (s.setSecmode v).statusIn = s.statusIn := rfl
@[simp] theorem State.setSecmode_frameIn : (s.setSecmode v).frameIn = s.frameIn := rfl
@[simp] theorem State.setSecmode_sleepIn : (s.setSecmode v).sleepIn = s.sleepIn := rfl
@[simp] theorem State.setSecmode_secIn : (s.setSecmode v).secIn = s.secIn := rfl

end setSecmode

/-! ### `setRes` -/

section setRes
variable (s : State) (v : Byte)

@[simp] theorem State.setRes_addr : (s.setRes v).addr = s.addr := rfl
@[simp] theorem State.setRes_len : (s.setRes v).len = s.len := rfl
@[simp] theorem State.setRes_mask : (s.setRes v).mask = s.mask := rfl
@[simp] theorem State.setRes_out : (s.setRes v).out = s.out := rfl
@[simp] theorem State.setRes_acc : (s.setRes v).acc = s.acc := rfl
@[simp] theorem State.setRes_csum : (s.setRes v).csum = s.csum := rfl
@[simp] theorem State.setRes_stat : (s.setRes v).stat = s.stat := rfl
@[simp] theorem State.setRes_secmode : (s.setRes v).secmode = s.secmode := rfl
@[simp] theorem State.setRes_res : (s.setRes v).res = v := rfl
@[simp] theorem State.setRes_rerr : (s.setRes v).rerr = s.rerr := rfl
@[simp] theorem State.setRes_rlen : (s.setRes v).rlen = s.rlen := rfl
@[simp] theorem State.setRes_flags : (s.setRes v).flags = s.flags := rfl
@[simp] theorem State.setRes_buf : (s.setRes v).buf = s.buf := rfl
@[simp] theorem State.setRes_ph : (s.setRes v).ph = s.ph := rfl
@[simp] theorem State.setRes_orig : (s.setRes v).orig = s.orig := rfl
@[simp] theorem State.setRes_chg : (s.setRes v).chg = s.chg := rfl
@[simp] theorem State.setRes_e : (s.setRes v).e = s.e := rfl
@[simp] theorem State.setRes_history : (s.setRes v).history = s.history := rfl
@[simp] theorem State.setRes_hostWords : (s.setRes v).hostWords = s.hostWords := rfl
@[simp] theorem State.setRes_twIn : (s.setRes v).twIn = s.twIn := rfl
@[simp] theorem State.setRes_statusIn : (s.setRes v).statusIn = s.statusIn := rfl
@[simp] theorem State.setRes_frameIn : (s.setRes v).frameIn = s.frameIn := rfl
@[simp] theorem State.setRes_sleepIn : (s.setRes v).sleepIn = s.sleepIn := rfl
@[simp] theorem State.setRes_secIn : (s.setRes v).secIn = s.secIn := rfl

end setRes

/-! ### `setRerr` -/

section setRerr
variable (s : State) (v : Byte)

@[simp] theorem State.setRerr_addr : (s.setRerr v).addr = s.addr := rfl
@[simp] theorem State.setRerr_len : (s.setRerr v).len = s.len := rfl
@[simp] theorem State.setRerr_mask : (s.setRerr v).mask = s.mask := rfl
@[simp] theorem State.setRerr_out : (s.setRerr v).out = s.out := rfl
@[simp] theorem State.setRerr_acc : (s.setRerr v).acc = s.acc := rfl
@[simp] theorem State.setRerr_csum : (s.setRerr v).csum = s.csum := rfl
@[simp] theorem State.setRerr_stat : (s.setRerr v).stat = s.stat := rfl
@[simp] theorem State.setRerr_secmode : (s.setRerr v).secmode = s.secmode := rfl
@[simp] theorem State.setRerr_res : (s.setRerr v).res = s.res := rfl
@[simp] theorem State.setRerr_rerr : (s.setRerr v).rerr = v := rfl
@[simp] theorem State.setRerr_rlen : (s.setRerr v).rlen = s.rlen := rfl
@[simp] theorem State.setRerr_flags : (s.setRerr v).flags = s.flags := rfl
@[simp] theorem State.setRerr_buf : (s.setRerr v).buf = s.buf := rfl
@[simp] theorem State.setRerr_ph : (s.setRerr v).ph = s.ph := rfl
@[simp] theorem State.setRerr_orig : (s.setRerr v).orig = s.orig := rfl
@[simp] theorem State.setRerr_chg : (s.setRerr v).chg = s.chg := rfl
@[simp] theorem State.setRerr_e : (s.setRerr v).e = s.e := rfl
@[simp] theorem State.setRerr_history : (s.setRerr v).history = s.history := rfl
@[simp] theorem State.setRerr_hostWords : (s.setRerr v).hostWords = s.hostWords := rfl
@[simp] theorem State.setRerr_twIn : (s.setRerr v).twIn = s.twIn := rfl
@[simp] theorem State.setRerr_statusIn : (s.setRerr v).statusIn = s.statusIn := rfl
@[simp] theorem State.setRerr_frameIn : (s.setRerr v).frameIn = s.frameIn := rfl
@[simp] theorem State.setRerr_sleepIn : (s.setRerr v).sleepIn = s.sleepIn := rfl
@[simp] theorem State.setRerr_secIn : (s.setRerr v).secIn = s.secIn := rfl

end setRerr

/-! ### `setRlen` -/

section setRlen
variable (s : State) (v : Byte)

@[simp] theorem State.setRlen_addr : (s.setRlen v).addr = s.addr := rfl
@[simp] theorem State.setRlen_len : (s.setRlen v).len = s.len := rfl
@[simp] theorem State.setRlen_mask : (s.setRlen v).mask = s.mask := rfl
@[simp] theorem State.setRlen_out : (s.setRlen v).out = s.out := rfl
@[simp] theorem State.setRlen_acc : (s.setRlen v).acc = s.acc := rfl
@[simp] theorem State.setRlen_csum : (s.setRlen v).csum = s.csum := rfl
@[simp] theorem State.setRlen_stat : (s.setRlen v).stat = s.stat := rfl
@[simp] theorem State.setRlen_secmode : (s.setRlen v).secmode = s.secmode := rfl
@[simp] theorem State.setRlen_res : (s.setRlen v).res = s.res := rfl
@[simp] theorem State.setRlen_rerr : (s.setRlen v).rerr = s.rerr := rfl
@[simp] theorem State.setRlen_rlen : (s.setRlen v).rlen = v := rfl
@[simp] theorem State.setRlen_flags : (s.setRlen v).flags = s.flags := rfl
@[simp] theorem State.setRlen_buf : (s.setRlen v).buf = s.buf := rfl
@[simp] theorem State.setRlen_ph : (s.setRlen v).ph = s.ph := rfl
@[simp] theorem State.setRlen_orig : (s.setRlen v).orig = s.orig := rfl
@[simp] theorem State.setRlen_chg : (s.setRlen v).chg = s.chg := rfl
@[simp] theorem State.setRlen_e : (s.setRlen v).e = s.e := rfl
@[simp] theorem State.setRlen_history : (s.setRlen v).history = s.history := rfl
@[simp] theorem State.setRlen_hostWords : (s.setRlen v).hostWords = s.hostWords := rfl
@[simp] theorem State.setRlen_twIn : (s.setRlen v).twIn = s.twIn := rfl
@[simp] theorem State.setRlen_statusIn : (s.setRlen v).statusIn = s.statusIn := rfl
@[simp] theorem State.setRlen_frameIn : (s.setRlen v).frameIn = s.frameIn := rfl
@[simp] theorem State.setRlen_sleepIn : (s.setRlen v).sleepIn = s.sleepIn := rfl
@[simp] theorem State.setRlen_secIn : (s.setRlen v).secIn = s.secIn := rfl

end setRlen

/-! ### `setFlags` -/

section setFlags
variable (s : State) (v : BitVec 2)

@[simp] theorem State.setFlags_addr : (s.setFlags v).addr = s.addr := rfl
@[simp] theorem State.setFlags_len : (s.setFlags v).len = s.len := rfl
@[simp] theorem State.setFlags_mask : (s.setFlags v).mask = s.mask := rfl
@[simp] theorem State.setFlags_out : (s.setFlags v).out = s.out := rfl
@[simp] theorem State.setFlags_acc : (s.setFlags v).acc = s.acc := rfl
@[simp] theorem State.setFlags_csum : (s.setFlags v).csum = s.csum := rfl
@[simp] theorem State.setFlags_stat : (s.setFlags v).stat = s.stat := rfl
@[simp] theorem State.setFlags_secmode : (s.setFlags v).secmode = s.secmode := rfl
@[simp] theorem State.setFlags_res : (s.setFlags v).res = s.res := rfl
@[simp] theorem State.setFlags_rerr : (s.setFlags v).rerr = s.rerr := rfl
@[simp] theorem State.setFlags_rlen : (s.setFlags v).rlen = s.rlen := rfl
@[simp] theorem State.setFlags_flags : (s.setFlags v).flags = v := rfl
@[simp] theorem State.setFlags_buf : (s.setFlags v).buf = s.buf := rfl
@[simp] theorem State.setFlags_ph : (s.setFlags v).ph = s.ph := rfl
@[simp] theorem State.setFlags_orig : (s.setFlags v).orig = s.orig := rfl
@[simp] theorem State.setFlags_chg : (s.setFlags v).chg = s.chg := rfl
@[simp] theorem State.setFlags_e : (s.setFlags v).e = s.e := rfl
@[simp] theorem State.setFlags_history : (s.setFlags v).history = s.history := rfl
@[simp] theorem State.setFlags_hostWords : (s.setFlags v).hostWords = s.hostWords := rfl
@[simp] theorem State.setFlags_twIn : (s.setFlags v).twIn = s.twIn := rfl
@[simp] theorem State.setFlags_statusIn : (s.setFlags v).statusIn = s.statusIn := rfl
@[simp] theorem State.setFlags_frameIn : (s.setFlags v).frameIn = s.frameIn := rfl
@[simp] theorem State.setFlags_sleepIn : (s.setFlags v).sleepIn = s.sleepIn := rfl
@[simp] theorem State.setFlags_secIn : (s.setFlags v).secIn = s.secIn := rfl

end setFlags

/-! ### `setBuf` -/

section setBuf
variable (s : State) (v : List Host.Cell)

@[simp] theorem State.setBuf_addr : (s.setBuf v).addr = s.addr := rfl
@[simp] theorem State.setBuf_len : (s.setBuf v).len = s.len := rfl
@[simp] theorem State.setBuf_mask : (s.setBuf v).mask = s.mask := rfl
@[simp] theorem State.setBuf_out : (s.setBuf v).out = s.out := rfl
@[simp] theorem State.setBuf_acc : (s.setBuf v).acc = s.acc := rfl
@[simp] theorem State.setBuf_csum : (s.setBuf v).csum = s.csum := rfl
@[simp] theorem State.setBuf_stat : (s.setBuf v).stat = s.stat := rfl
@[simp] theorem State.setBuf_secmode : (s.setBuf v).secmode = s.secmode := rfl
@[simp] theorem State.setBuf_res : (s.setBuf v).res = s.res := rfl
@[simp] theorem State.setBuf_rerr : (s.setBuf v).rerr = s.rerr := rfl
@[simp] theorem State.setBuf_rlen : (s.setBuf v).rlen = s.rlen := rfl
@[simp] theorem State.setBuf_flags : (s.setBuf v).flags = s.flags := rfl
@[simp] theorem State.setBuf_buf : (s.setBuf v).buf = v := rfl
@[simp] theorem State.setBuf_ph : (s.setBuf v).ph = s.ph := rfl
@[simp] theorem State.setBuf_orig : (s.setBuf v).orig = s.orig := rfl
@[simp] theorem State.setBuf_chg : (s.setBuf v).chg = s.chg := rfl
@[simp] theorem State.setBuf_e : (s.setBuf v).e = s.e := rfl
@[simp] theorem State.setBuf_history : (s.setBuf v).history = s.history := rfl
@[simp] theorem State.setBuf_hostWords : (s.setBuf v).hostWords = s.hostWords := rfl
@[simp] theorem State.setBuf_twIn : (s.setBuf v).twIn = s.twIn := rfl
@[simp] theorem State.setBuf_statusIn : (s.setBuf v).statusIn = s.statusIn := rfl
@[simp] theorem State.setBuf_frameIn : (s.setBuf v).frameIn = s.frameIn := rfl
@[simp] theorem State.setBuf_sleepIn : (s.setBuf v).sleepIn = s.sleepIn := rfl
@[simp] theorem State.setBuf_secIn : (s.setBuf v).secIn = s.secIn := rfl

end setBuf

/-! ### `setPh` -/

section setPh
variable (s : State) (v : Phase)

@[simp] theorem State.setPh_addr : (s.setPh v).addr = s.addr := rfl
@[simp] theorem State.setPh_len : (s.setPh v).len = s.len := rfl
@[simp] theorem State.setPh_mask : (s.setPh v).mask = s.mask := rfl
@[simp] theorem State.setPh_out : (s.setPh v).out = s.out := rfl
@[simp] theorem State.setPh_acc : (s.setPh v).acc = s.acc := rfl
@[simp] theorem State.setPh_csum : (s.setPh v).csum = s.csum := rfl
@[simp] theorem State.setPh_stat : (s.setPh v).stat = s.stat := rfl
@[simp] theorem State.setPh_secmode : (s.setPh v).secmode = s.secmode := rfl
@[simp] theorem State.setPh_res : (s.setPh v).res = s.res := rfl
@[simp] theorem State.setPh_rerr : (s.setPh v).rerr = s.rerr := rfl
@[simp] theorem State.setPh_rlen : (s.setPh v).rlen = s.rlen := rfl
@[simp] theorem State.setPh_flags : (s.setPh v).flags = s.flags := rfl
@[simp] theorem State.setPh_buf : (s.setPh v).buf = s.buf := rfl
@[simp] theorem State.setPh_ph : (s.setPh v).ph = v := rfl
@[simp] theorem State.setPh_orig : (s.setPh v).orig = s.orig := rfl
@[simp] theorem State.setPh_chg : (s.setPh v).chg = s.chg := rfl
@[simp] theorem State.setPh_e : (s.setPh v).e = s.e := rfl
@[simp] theorem State.setPh_history : (s.setPh v).history = s.history := rfl
@[simp] theorem State.setPh_hostWords : (s.setPh v).hostWords = s.hostWords := rfl
@[simp] theorem State.setPh_twIn : (s.setPh v).twIn = s.twIn := rfl
@[simp] theorem State.setPh_statusIn : (s.setPh v).statusIn = s.statusIn := rfl
@[simp] theorem State.setPh_frameIn : (s.setPh v).frameIn = s.frameIn := rfl
@[simp] theorem State.setPh_sleepIn : (s.setPh v).sleepIn = s.sleepIn := rfl
@[simp] theorem State.setPh_secIn : (s.setPh v).secIn = s.secIn := rfl

end setPh

/-! ### `setOrig` -/

section setOrig
variable (s : State) (v : SecMode)

@[simp] theorem State.setOrig_addr : (s.setOrig v).addr = s.addr := rfl
@[simp] theorem State.setOrig_len : (s.setOrig v).len = s.len := rfl
@[simp] theorem State.setOrig_mask : (s.setOrig v).mask = s.mask := rfl
@[simp] theorem State.setOrig_out : (s.setOrig v).out = s.out := rfl
@[simp] theorem State.setOrig_acc : (s.setOrig v).acc = s.acc := rfl
@[simp] theorem State.setOrig_csum : (s.setOrig v).csum = s.csum := rfl
@[simp] theorem State.setOrig_stat : (s.setOrig v).stat = s.stat := rfl
@[simp] theorem State.setOrig_secmode : (s.setOrig v).secmode = s.secmode := rfl
@[simp] theorem State.setOrig_res : (s.setOrig v).res = s.res := rfl
@[simp] theorem State.setOrig_rerr : (s.setOrig v).rerr = s.rerr := rfl
@[simp] theorem State.setOrig_rlen : (s.setOrig v).rlen = s.rlen := rfl
@[simp] theorem State.setOrig_flags : (s.setOrig v).flags = s.flags := rfl
@[simp] theorem State.setOrig_buf : (s.setOrig v).buf = s.buf := rfl
@[simp] theorem State.setOrig_ph : (s.setOrig v).ph = s.ph := rfl
@[simp] theorem State.setOrig_orig : (s.setOrig v).orig = v := rfl
@[simp] theorem State.setOrig_chg : (s.setOrig v).chg = s.chg := rfl
@[simp] theorem State.setOrig_e : (s.setOrig v).e = s.e := rfl
@[simp] theorem State.setOrig_history : (s.setOrig v).history = s.history := rfl
@[simp] theorem State.setOrig_hostWords : (s.setOrig v).hostWords = s.hostWords := rfl
@[simp] theorem State.setOrig_twIn : (s.setOrig v).twIn = s.twIn := rfl
@[simp] theorem State.setOrig_statusIn : (s.setOrig v).statusIn = s.statusIn := rfl
@[simp] theorem State.setOrig_frameIn : (s.setOrig v).frameIn = s.frameIn := rfl
@[simp] theorem State.setOrig_sleepIn : (s.setOrig v).sleepIn = s.sleepIn := rfl
@[simp] theorem State.setOrig_secIn : (s.setOrig v).secIn = s.secIn := rfl

end setOrig

/-! ### `setChg` -/

section setChg
variable (s : State) (v : Bool)

@[simp] theorem State.setChg_addr : (s.setChg v).addr = s.addr := rfl
@[simp] theorem State.setChg_len : (s.setChg v).len = s.len := rfl
@[simp] theorem State.setChg_mask : (s.setChg v).mask = s.mask := rfl
@[simp] theorem State.setChg_out : (s.setChg v).out = s.out := rfl
@[simp] theorem State.setChg_acc : (s.setChg v).acc = s.acc := rfl
@[simp] theorem State.setChg_csum : (s.setChg v).csum = s.csum := rfl
@[simp] theorem State.setChg_stat : (s.setChg v).stat = s.stat := rfl
@[simp] theorem State.setChg_secmode : (s.setChg v).secmode = s.secmode := rfl
@[simp] theorem State.setChg_res : (s.setChg v).res = s.res := rfl
@[simp] theorem State.setChg_rerr : (s.setChg v).rerr = s.rerr := rfl
@[simp] theorem State.setChg_rlen : (s.setChg v).rlen = s.rlen := rfl
@[simp] theorem State.setChg_flags : (s.setChg v).flags = s.flags := rfl
@[simp] theorem State.setChg_buf : (s.setChg v).buf = s.buf := rfl
@[simp] theorem State.setChg_ph : (s.setChg v).ph = s.ph := rfl
@[simp] theorem State.setChg_orig : (s.setChg v).orig = s.orig := rfl
@[simp] theorem State.setChg_chg : (s.setChg v).chg = v := rfl
@[simp] theorem State.setChg_e : (s.setChg v).e = s.e := rfl
@[simp] theorem State.setChg_history : (s.setChg v).history = s.history := rfl
@[simp] theorem State.setChg_hostWords : (s.setChg v).hostWords = s.hostWords := rfl
@[simp] theorem State.setChg_twIn : (s.setChg v).twIn = s.twIn := rfl
@[simp] theorem State.setChg_statusIn : (s.setChg v).statusIn = s.statusIn := rfl
@[simp] theorem State.setChg_frameIn : (s.setChg v).frameIn = s.frameIn := rfl
@[simp] theorem State.setChg_sleepIn : (s.setChg v).sleepIn = s.sleepIn := rfl
@[simp] theorem State.setChg_secIn : (s.setChg v).secIn = s.secIn := rfl

end setChg

/-! ### `setE` -/

section setE
variable (s : State) (v : Byte)

@[simp] theorem State.setE_addr : (s.setE v).addr = s.addr := rfl
@[simp] theorem State.setE_len : (s.setE v).len = s.len := rfl
@[simp] theorem State.setE_mask : (s.setE v).mask = s.mask := rfl
@[simp] theorem State.setE_out : (s.setE v).out = s.out := rfl
@[simp] theorem State.setE_acc : (s.setE v).acc = s.acc := rfl
@[simp] theorem State.setE_csum : (s.setE v).csum = s.csum := rfl
@[simp] theorem State.setE_stat : (s.setE v).stat = s.stat := rfl
@[simp] theorem State.setE_secmode : (s.setE v).secmode = s.secmode := rfl
@[simp] theorem State.setE_res : (s.setE v).res = s.res := rfl
@[simp] theorem State.setE_rerr : (s.setE v).rerr = s.rerr := rfl
@[simp] theorem State.setE_rlen : (s.setE v).rlen = s.rlen := rfl
@[simp] theorem State.setE_flags : (s.setE v).flags = s.flags := rfl
@[simp] theorem State.setE_buf : (s.setE v).buf = s.buf := rfl
@[simp] theorem State.setE_ph : (s.setE v).ph = s.ph := rfl
@[simp] theorem State.setE_orig : (s.setE v).orig = s.orig := rfl
@[simp] theorem State.setE_chg : (s.setE v).chg = s.chg := rfl
@[simp] theorem State.setE_e : (s.setE v).e = v := rfl
@[simp] theorem State.setE_history : (s.setE v).history = s.history := rfl
@[simp] theorem State.setE_hostWords : (s.setE v).hostWords = s.hostWords := rfl
@[simp] theorem State.setE_twIn : (s.setE v).twIn = s.twIn := rfl
@[simp] theorem State.setE_statusIn : (s.setE v).statusIn = s.statusIn := rfl
@[simp] theorem State.setE_frameIn : (s.setE v).frameIn = s.frameIn := rfl
@[simp] theorem State.setE_sleepIn : (s.setE v).sleepIn = s.sleepIn := rfl
@[simp] theorem State.setE_secIn : (s.setE v).secIn = s.secIn := rfl

end setE

/-! ### `setHistory` -/

section setHistory
variable (s : State) (v : List Event)

@[simp] theorem State.setHistory_addr : (s.setHistory v).addr = s.addr := rfl
@[simp] theorem State.setHistory_len : (s.setHistory v).len = s.len := rfl
@[simp] theorem State.setHistory_mask : (s.setHistory v).mask = s.mask := rfl
@[simp] theorem State.setHistory_out : (s.setHistory v).out = s.out := rfl
@[simp] theorem State.setHistory_acc : (s.setHistory v).acc = s.acc := rfl
@[simp] theorem State.setHistory_csum : (s.setHistory v).csum = s.csum := rfl
@[simp] theorem State.setHistory_stat : (s.setHistory v).stat = s.stat := rfl
@[simp] theorem State.setHistory_secmode : (s.setHistory v).secmode = s.secmode := rfl
@[simp] theorem State.setHistory_res : (s.setHistory v).res = s.res := rfl
@[simp] theorem State.setHistory_rerr : (s.setHistory v).rerr = s.rerr := rfl
@[simp] theorem State.setHistory_rlen : (s.setHistory v).rlen = s.rlen := rfl
@[simp] theorem State.setHistory_flags : (s.setHistory v).flags = s.flags := rfl
@[simp] theorem State.setHistory_buf : (s.setHistory v).buf = s.buf := rfl
@[simp] theorem State.setHistory_ph : (s.setHistory v).ph = s.ph := rfl
@[simp] theorem State.setHistory_orig : (s.setHistory v).orig = s.orig := rfl
@[simp] theorem State.setHistory_chg : (s.setHistory v).chg = s.chg := rfl
@[simp] theorem State.setHistory_e : (s.setHistory v).e = s.e := rfl
@[simp] theorem State.setHistory_history : (s.setHistory v).history = v := rfl
@[simp] theorem State.setHistory_hostWords : (s.setHistory v).hostWords = s.hostWords := rfl
@[simp] theorem State.setHistory_twIn : (s.setHistory v).twIn = s.twIn := rfl
@[simp] theorem State.setHistory_statusIn : (s.setHistory v).statusIn = s.statusIn := rfl
@[simp] theorem State.setHistory_frameIn : (s.setHistory v).frameIn = s.frameIn := rfl
@[simp] theorem State.setHistory_sleepIn : (s.setHistory v).sleepIn = s.sleepIn := rfl
@[simp] theorem State.setHistory_secIn : (s.setHistory v).secIn = s.secIn := rfl

end setHistory

/-! ### `setHostWords` -/

section setHostWords
variable (s : State) (v : List Word)

@[simp] theorem State.setHostWords_addr : (s.setHostWords v).addr = s.addr := rfl
@[simp] theorem State.setHostWords_len : (s.setHostWords v).len = s.len := rfl
@[simp] theorem State.setHostWords_mask : (s.setHostWords v).mask = s.mask := rfl
@[simp] theorem State.setHostWords_out : (s.setHostWords v).out = s.out := rfl
@[simp] theorem State.setHostWords_acc : (s.setHostWords v).acc = s.acc := rfl
@[simp] theorem State.setHostWords_csum : (s.setHostWords v).csum = s.csum := rfl
@[simp] theorem State.setHostWords_stat : (s.setHostWords v).stat = s.stat := rfl
@[simp] theorem State.setHostWords_secmode : (s.setHostWords v).secmode = s.secmode := rfl
@[simp] theorem State.setHostWords_res : (s.setHostWords v).res = s.res := rfl
@[simp] theorem State.setHostWords_rerr : (s.setHostWords v).rerr = s.rerr := rfl
@[simp] theorem State.setHostWords_rlen : (s.setHostWords v).rlen = s.rlen := rfl
@[simp] theorem State.setHostWords_flags : (s.setHostWords v).flags = s.flags := rfl
@[simp] theorem State.setHostWords_buf : (s.setHostWords v).buf = s.buf := rfl
@[simp] theorem State.setHostWords_ph : (s.setHostWords v).ph = s.ph := rfl
@[simp] theorem State.setHostWords_orig : (s.setHostWords v).orig = s.orig := rfl
@[simp] theorem State.setHostWords_chg : (s.setHostWords v).chg = s.chg := rfl
@[simp] theorem State.setHostWords_e : (s.setHostWords v).e = s.e := rfl
@[simp] theorem State.setHostWords_history : (s.setHostWords v).history = s.history := rfl
@[simp] theorem State.setHostWords_hostWords : (s.setHostWords v).hostWords = v := rfl
@[simp] theorem State.setHostWords_twIn : (s.setHostWords v).twIn = s.twIn := rfl
@[simp] theorem State.setHostWords_statusIn : (s.setHostWords v).statusIn = s.statusIn := rfl
@[simp] theorem State.setHostWords_frameIn : (s.setHostWords v).frameIn = s.frameIn := rfl
@[simp] theorem State.setHostWords_sleepIn : (s.setHostWords v).sleepIn = s.sleepIn := rfl
@[simp] theorem State.setHostWords_secIn : (s.setHostWords v).secIn = s.secIn := rfl

end setHostWords

/-! ### `setTwIn` -/

section setTwIn
variable (s : State) (v : List TwAnswer)

@[simp] theorem State.setTwIn_addr : (s.setTwIn v).addr = s.addr := rfl
@[simp] theorem State.setTwIn_len : (s.setTwIn v).len = s.len := rfl
@[simp] theorem State.setTwIn_mask : (s.setTwIn v).mask = s.mask := rfl
@[simp] theorem State.setTwIn_out : (s.setTwIn v).out = s.out := rfl
@[simp] theorem State.setTwIn_acc : (s.setTwIn v).acc = s.acc := rfl
@[simp] theorem State.setTwIn_csum : (s.setTwIn v).csum = s.csum := rfl
@[simp] theorem State.setTwIn_stat : (s.setTwIn v).stat = s.stat := rfl
@[simp] theorem State.setTwIn_secmode : (s.setTwIn v).secmode = s.secmode := rfl
@[simp] theorem State.setTwIn_res : (s.setTwIn v).res = s.res := rfl
@[simp] theorem State.setTwIn_rerr : (s.setTwIn v).rerr = s.rerr := rfl
@[simp] theorem State.setTwIn_rlen : (s.setTwIn v).rlen = s.rlen := rfl
@[simp] theorem State.setTwIn_flags : (s.setTwIn v).flags = s.flags := rfl
@[simp] theorem State.setTwIn_buf : (s.setTwIn v).buf = s.buf := rfl
@[simp] theorem State.setTwIn_ph : (s.setTwIn v).ph = s.ph := rfl
@[simp] theorem State.setTwIn_orig : (s.setTwIn v).orig = s.orig := rfl
@[simp] theorem State.setTwIn_chg : (s.setTwIn v).chg = s.chg := rfl
@[simp] theorem State.setTwIn_e : (s.setTwIn v).e = s.e := rfl
@[simp] theorem State.setTwIn_history : (s.setTwIn v).history = s.history := rfl
@[simp] theorem State.setTwIn_hostWords : (s.setTwIn v).hostWords = s.hostWords := rfl
@[simp] theorem State.setTwIn_twIn : (s.setTwIn v).twIn = v := rfl
@[simp] theorem State.setTwIn_statusIn : (s.setTwIn v).statusIn = s.statusIn := rfl
@[simp] theorem State.setTwIn_frameIn : (s.setTwIn v).frameIn = s.frameIn := rfl
@[simp] theorem State.setTwIn_sleepIn : (s.setTwIn v).sleepIn = s.sleepIn := rfl
@[simp] theorem State.setTwIn_secIn : (s.setTwIn v).secIn = s.secIn := rfl

end setTwIn

/-! ### `setStatusIn` -/

section setStatusIn
variable (s : State) (v : List (TrAnswer 2))

@[simp] theorem State.setStatusIn_addr : (s.setStatusIn v).addr = s.addr := rfl
@[simp] theorem State.setStatusIn_len : (s.setStatusIn v).len = s.len := rfl
@[simp] theorem State.setStatusIn_mask : (s.setStatusIn v).mask = s.mask := rfl
@[simp] theorem State.setStatusIn_out : (s.setStatusIn v).out = s.out := rfl
@[simp] theorem State.setStatusIn_acc : (s.setStatusIn v).acc = s.acc := rfl
@[simp] theorem State.setStatusIn_csum : (s.setStatusIn v).csum = s.csum := rfl
@[simp] theorem State.setStatusIn_stat : (s.setStatusIn v).stat = s.stat := rfl
@[simp] theorem State.setStatusIn_secmode : (s.setStatusIn v).secmode = s.secmode := rfl
@[simp] theorem State.setStatusIn_res : (s.setStatusIn v).res = s.res := rfl
@[simp] theorem State.setStatusIn_rerr : (s.setStatusIn v).rerr = s.rerr := rfl
@[simp] theorem State.setStatusIn_rlen : (s.setStatusIn v).rlen = s.rlen := rfl
@[simp] theorem State.setStatusIn_flags : (s.setStatusIn v).flags = s.flags := rfl
@[simp] theorem State.setStatusIn_buf : (s.setStatusIn v).buf = s.buf := rfl
@[simp] theorem State.setStatusIn_ph : (s.setStatusIn v).ph = s.ph := rfl
@[simp] theorem State.setStatusIn_orig : (s.setStatusIn v).orig = s.orig := rfl
@[simp] theorem State.setStatusIn_chg : (s.setStatusIn v).chg = s.chg := rfl
@[simp] theorem State.setStatusIn_e : (s.setStatusIn v).e = s.e := rfl
@[simp] theorem State.setStatusIn_history : (s.setStatusIn v).history = s.history := rfl
@[simp] theorem State.setStatusIn_hostWords : (s.setStatusIn v).hostWords = s.hostWords := rfl
@[simp] theorem State.setStatusIn_twIn : (s.setStatusIn v).twIn = s.twIn := rfl
@[simp] theorem State.setStatusIn_statusIn : (s.setStatusIn v).statusIn = v := rfl
@[simp] theorem State.setStatusIn_frameIn : (s.setStatusIn v).frameIn = s.frameIn := rfl
@[simp] theorem State.setStatusIn_sleepIn : (s.setStatusIn v).sleepIn = s.sleepIn := rfl
@[simp] theorem State.setStatusIn_secIn : (s.setStatusIn v).secIn = s.secIn := rfl

end setStatusIn

/-! ### `setFrameIn` -/

section setFrameIn
variable (s : State) (v : List (TrAnswer 36))

@[simp] theorem State.setFrameIn_addr : (s.setFrameIn v).addr = s.addr := rfl
@[simp] theorem State.setFrameIn_len : (s.setFrameIn v).len = s.len := rfl
@[simp] theorem State.setFrameIn_mask : (s.setFrameIn v).mask = s.mask := rfl
@[simp] theorem State.setFrameIn_out : (s.setFrameIn v).out = s.out := rfl
@[simp] theorem State.setFrameIn_acc : (s.setFrameIn v).acc = s.acc := rfl
@[simp] theorem State.setFrameIn_csum : (s.setFrameIn v).csum = s.csum := rfl
@[simp] theorem State.setFrameIn_stat : (s.setFrameIn v).stat = s.stat := rfl
@[simp] theorem State.setFrameIn_secmode : (s.setFrameIn v).secmode = s.secmode := rfl
@[simp] theorem State.setFrameIn_res : (s.setFrameIn v).res = s.res := rfl
@[simp] theorem State.setFrameIn_rerr : (s.setFrameIn v).rerr = s.rerr := rfl
@[simp] theorem State.setFrameIn_rlen : (s.setFrameIn v).rlen = s.rlen := rfl
@[simp] theorem State.setFrameIn_flags : (s.setFrameIn v).flags = s.flags := rfl
@[simp] theorem State.setFrameIn_buf : (s.setFrameIn v).buf = s.buf := rfl
@[simp] theorem State.setFrameIn_ph : (s.setFrameIn v).ph = s.ph := rfl
@[simp] theorem State.setFrameIn_orig : (s.setFrameIn v).orig = s.orig := rfl
@[simp] theorem State.setFrameIn_chg : (s.setFrameIn v).chg = s.chg := rfl
@[simp] theorem State.setFrameIn_e : (s.setFrameIn v).e = s.e := rfl
@[simp] theorem State.setFrameIn_history : (s.setFrameIn v).history = s.history := rfl
@[simp] theorem State.setFrameIn_hostWords : (s.setFrameIn v).hostWords = s.hostWords := rfl
@[simp] theorem State.setFrameIn_twIn : (s.setFrameIn v).twIn = s.twIn := rfl
@[simp] theorem State.setFrameIn_statusIn : (s.setFrameIn v).statusIn = s.statusIn := rfl
@[simp] theorem State.setFrameIn_frameIn : (s.setFrameIn v).frameIn = v := rfl
@[simp] theorem State.setFrameIn_sleepIn : (s.setFrameIn v).sleepIn = s.sleepIn := rfl
@[simp] theorem State.setFrameIn_secIn : (s.setFrameIn v).secIn = s.secIn := rfl

end setFrameIn

/-! ### `setSleepIn` -/

section setSleepIn
variable (s : State) (v : Nat)

@[simp] theorem State.setSleepIn_addr : (s.setSleepIn v).addr = s.addr := rfl
@[simp] theorem State.setSleepIn_len : (s.setSleepIn v).len = s.len := rfl
@[simp] theorem State.setSleepIn_mask : (s.setSleepIn v).mask = s.mask := rfl
@[simp] theorem State.setSleepIn_out : (s.setSleepIn v).out = s.out := rfl
@[simp] theorem State.setSleepIn_acc : (s.setSleepIn v).acc = s.acc := rfl
@[simp] theorem State.setSleepIn_csum : (s.setSleepIn v).csum = s.csum := rfl
@[simp] theorem State.setSleepIn_stat : (s.setSleepIn v).stat = s.stat := rfl
@[simp] theorem State.setSleepIn_secmode : (s.setSleepIn v).secmode = s.secmode := rfl
@[simp] theorem State.setSleepIn_res : (s.setSleepIn v).res = s.res := rfl
@[simp] theorem State.setSleepIn_rerr : (s.setSleepIn v).rerr = s.rerr := rfl
@[simp] theorem State.setSleepIn_rlen : (s.setSleepIn v).rlen = s.rlen := rfl
@[simp] theorem State.setSleepIn_flags : (s.setSleepIn v).flags = s.flags := rfl
@[simp] theorem State.setSleepIn_buf : (s.setSleepIn v).buf = s.buf := rfl
@[simp] theorem State.setSleepIn_ph : (s.setSleepIn v).ph = s.ph := rfl
@[simp] theorem State.setSleepIn_orig : (s.setSleepIn v).orig = s.orig := rfl
@[simp] theorem State.setSleepIn_chg : (s.setSleepIn v).chg = s.chg := rfl
@[simp] theorem State.setSleepIn_e : (s.setSleepIn v).e = s.e := rfl
@[simp] theorem State.setSleepIn_history : (s.setSleepIn v).history = s.history := rfl
@[simp] theorem State.setSleepIn_hostWords : (s.setSleepIn v).hostWords = s.hostWords := rfl
@[simp] theorem State.setSleepIn_twIn : (s.setSleepIn v).twIn = s.twIn := rfl
@[simp] theorem State.setSleepIn_statusIn : (s.setSleepIn v).statusIn = s.statusIn := rfl
@[simp] theorem State.setSleepIn_frameIn : (s.setSleepIn v).frameIn = s.frameIn := rfl
@[simp] theorem State.setSleepIn_sleepIn : (s.setSleepIn v).sleepIn = v := rfl
@[simp] theorem State.setSleepIn_secIn : (s.setSleepIn v).secIn = s.secIn := rfl

end setSleepIn

/-! ### `setSecIn` -/

section setSecIn
variable (s : State) (v : List SecAnswer)

@[simp] theorem State.setSecIn_addr : (s.setSecIn v).addr = s.addr := rfl
@[simp] theorem State.setSecIn_len : (s.setSecIn v).len = s.len := rfl
@[simp] theorem State.setSecIn_mask : (s.setSecIn v).mask = s.mask := rfl
@[simp] theorem State.setSecIn_out : (s.setSecIn v).out = s.out := rfl
@[simp] theorem State.setSecIn_acc : (s.setSecIn v).acc = s.acc := rfl
@[simp] theorem State.setSecIn_csum : (s.setSecIn v).csum = s.csum := rfl
@[simp] theorem State.setSecIn_stat : (s.setSecIn v).stat = s.stat := rfl
@[simp] theorem State.setSecIn_secmode : (s.setSecIn v).secmode = s.secmode := rfl
@[simp] theorem State.setSecIn_res : (s.setSecIn v).res = s.res := rfl
@[simp] theorem State.setSecIn_rerr : (s.setSecIn v).rerr = s.rerr := rfl
@[simp] theorem State.setSecIn_rlen : (s.setSecIn v).rlen = s.rlen := rfl
@[simp] theorem State.setSecIn_flags : (s.setSecIn v).flags = s.flags := rfl
@[simp] theorem State.setSecIn_buf : (s.setSecIn v).buf = s.buf := rfl
@[simp] theorem State.setSecIn_ph : (s.setSecIn v).ph = s.ph := rfl
@[simp] theorem State.setSecIn_orig : (s.setSecIn v).orig = s.orig := rfl
@[simp] theorem State.setSecIn_chg : (s.setSecIn v).chg = s.chg := rfl
@[simp] theorem State.setSecIn_e : (s.setSecIn v).e = s.e := rfl
@[simp] theorem State.setSecIn_history : (s.setSecIn v).history = s.history := rfl
@[simp] theorem State.setSecIn_hostWords : (s.setSecIn v).hostWords = s.hostWords := rfl
@[simp] theorem State.setSecIn_twIn : (s.setSecIn v).twIn = s.twIn := rfl
@[simp] theorem State.setSecIn_statusIn : (s.setSecIn v).statusIn = s.statusIn := rfl
@[simp] theorem State.setSecIn_frameIn : (s.setSecIn v).frameIn = s.frameIn := rfl
@[simp] theorem State.setSecIn_sleepIn : (s.setSecIn v).sleepIn = s.sleepIn := rfl
@[simp] theorem State.setSecIn_secIn : (s.setSecIn v).secIn = v := rfl

end setSecIn

end Sys2Proof.Machine
end

