-- ==== Sys2Proof/Laws/Buffer.lean ====
section
/-! SUPPORT. The frame buffer: a read after a write, what a write leaves alone, and that every operation
keeps the canonical form. -/

namespace Sys2Proof.Machine

/-- A read after a write to the same index gives the value written, in any buffer. -/
@[simp] theorem cellAt_cellWrite_same (b : List Host.Cell) (i : Nat) (v : Byte) :
    cellAt (cellWrite b i v) i = some v := by
  induction b with
  | nil => simp [cellWrite, cellAt]
  | cons c rest ih =>
    simp only [cellWrite]
    split
    · simp [cellAt]
    · split
      · simp [cellAt]
      · rename_i h
        simp [cellAt, ih, Ne.symm h]

/-- A write leaves every other index alone, in any buffer. -/
theorem cellAt_cellWrite_other (b : List Host.Cell) (i j : Nat) (v : Byte) (h : j ≠ i) :
    cellAt (cellWrite b i v) j = cellAt b j := by
  induction b with
  | nil => simp [cellWrite, cellAt, h.symm]
  | cons c rest ih =>
    simp only [cellWrite]
    split
    · simp [cellAt, h.symm]
    · split
      · rename_i hic
        subst hic
        simp [cellAt, h.symm]
      · simp [cellAt, ih]

theorem cellRead_cellWrite (b : List Host.Cell) (i j : Nat) (v : Byte) :
    cellRead (cellWrite b i v) j = if j = i then v else cellRead b j := by
  unfold cellRead
  split
  · rename_i h
    subst h
    simp
  · rename_i h
    rw [cellAt_cellWrite_other b i j v h]

@[simp] theorem State.setBufByte_bufByte_same (s : State) (i : Nat) (v : Byte) :
    (s.setBufByte i v).bufByte i = v := by
  simp [State.setBufByte, State.bufByte, cellRead_cellWrite]

theorem State.setBufByte_bufByte (s : State) (i j : Nat) (v : Byte) :
    (s.setBufByte i v).bufByte j = if j = i then v else s.bufByte j := by
  simp [State.setBufByte, State.bufByte, cellRead_cellWrite]

/-- The `i`-th byte of a loaded sequence. -/
theorem cellAt_zip_range' (bs : List Byte) (k i : Nat) (h : i < bs.length) :
    cellAt ((List.range' k bs.length).zip bs) (k + i) = bs[i]? := by
  induction bs generalizing k i with
  | nil => simp at h
  | cons x xs ih =>
    cases i with
    | zero => simp [List.range'_succ, cellAt]
    | succ i =>
      have hk : ¬ k = k + (i + 1) := by omega
      have := ih (k + 1) i (by simpa using h)
      simp only [List.length_cons, List.range'_succ, List.zip_cons_cons, cellAt, hk, if_false]
      rw [show k + (i + 1) = k + 1 + i by omega, this]
      simp

/-- The buffer after a frame is loaded holds the frame's bytes at their indices (R151). -/
theorem State.loadBuf_bufByte (s : State) (data : Bytes 36) (i : Nat) (h : i < 36) :
    (s.loadBuf data).bufByte i = data.bytes.getD i 0#8 := by
  have hl : i < data.bytes.length := by rw [data.length_eq]; exact h
  have := cellAt_zip_range' data.bytes 0 i hl
  simp only [Nat.zero_add, ← List.range_eq_range'] at this
  simp [State.loadBuf, State.bufByte, cellRead, cellsOf, this, List.getElem?_eq_getElem hl]

/-! ### The canonical form -/

theorem cellWrite_keys_of_mem (b : List Host.Cell) (i : Nat) (v : Byte)
    (hs : (b.map Prod.fst).Pairwise (· < ·)) (h : i ∈ b.map Prod.fst) :
    (cellWrite b i v).map Prod.fst = b.map Prod.fst := by
  induction b with
  | nil => simp at h
  | cons c rest ih =>
    simp only [List.map_cons, List.pairwise_cons] at hs
    simp only [List.map_cons, List.mem_cons] at h
    simp only [cellWrite]
    split
    · rename_i hlt
      rcases h with h | h
      · omega
      · have := hs.1 i h
        omega
    · split
      · rename_i heq
        simp [heq]
      · rename_i hne
        rcases h with h | h
        · exact absurd h hne
        · simp [ih hs.2 h]

/-- A write at an index of the buffer keeps the canonical form (R35). -/
theorem bufWf_cellWrite (b : List Host.Cell) (i : Nat) (v : Byte) (hb : bufWf b = true)
    (hi : i < 36) : bufWf (cellWrite b i v) = true := by
  simp only [bufWf, decide_eq_true_eq] at hb ⊢
  rw [cellWrite_keys_of_mem b i v _ _, hb]
  · rw [hb]; exact List.pairwise_lt_range
  · rw [hb]; exact List.mem_range.mpr hi

/-- A loaded frame is a buffer in canonical form (R151). -/
theorem bufWf_cellsOf (data : Bytes 36) : bufWf (cellsOf data.bytes) = true := by
  simp only [bufWf, decide_eq_true_eq, cellsOf, data.length_eq]
  rw [List.map_fst_zip]
  rw [data.length_eq]
  simp

/-- The buffer at reset is in canonical form (R39). -/
theorem bufWf_reset : bufWf State.reset.buf = true := by decide

/-- Two buffers in canonical form that read alike at every index are equal. -/
theorem bufWf_ext (b c : List Host.Cell) (hb : bufWf b = true) (hc : bufWf c = true)
    (h : ∀ i < 36, cellAt b i = cellAt c i) : b = c := by
  simp only [bufWf, decide_eq_true_eq] at hb hc
  have main : ∀ (n k : Nat) (b c : List Host.Cell), b.map Prod.fst = List.range' k n →
      c.map Prod.fst = List.range' k n →
      (∀ i, k ≤ i → i < k + n → cellAt b i = cellAt c i) → b = c := by
    intro n
    induction n with
    | zero => intro k b c hb hc _; simp_all
    | succ n ih =>
      intro k b c hb hc h
      cases b with
      | nil => simp [List.range'_succ] at hb
      | cons x xs =>
        cases c with
        | nil => simp [List.range'_succ] at hc
        | cons y ys =>
          simp only [List.map_cons, List.range'_succ, List.cons.injEq] at hb hc
          have h0 := h k (le_refl k) (by omega)
          simp only [cellAt, hb.1, hc.1, if_true, Option.some.injEq] at h0
          have hxy : x = y := Prod.ext (hb.1.trans hc.1.symm) h0
          have hrest : xs = ys := by
            apply ih (k + 1) xs ys hb.2 hc.2
            intro i hi hi'
            have := h i (by omega) (by omega)
            have hne : ¬ k = i := by omega
            simpa [cellAt, hb.1, hc.1, hne] using this
          rw [hxy, hrest]
  refine main 36 0 b c (by rw [hb]; rfl) (by rw [hc]; rfl) ?_
  intro i _ hi
  exact h i (by omega)

end Sys2Proof.Machine
end

