-- ==== Sys2Proof/Laws/PerInstr.lean ====
section
/-! SUPPORT. Facts about every command as syntax, one lemma per constructor: the encoded word lies in its row
of the opcode map (R93). -/

namespace Sys2Proof.Laws

/-- The format and the `match` word of a command's row in R93. -/
def rowOf : Instr → Format × Word
  | .nop => (.z, 0x00000000#32)
  | .setaddr _ => (.i, 0x01000000#32)
  | .setlen _ => (.a, 0x02000000#32)
  | .setmask _ => (.i, 0x03000000#32)
  | .setmode _ => (.a, 0x04000000#32)
  | .bufwr _ _ => (.ab, 0x08000000#32)
  | .bufrd _ => (.a, 0x09000000#32)
  | .ckclr => (.z, 0x10000000#32)
  | .ckadd _ => (.b, 0x11000000#32)
  | .ckfin => (.z, 0x12000000#32)
  | .ckbuf _ => (.a, 0x13000000#32)
  | .xmcomp => (.z, 0x20000000#32)
  | .xmval => (.z, 0x21000000#32)
  | .xmwrite => (.z, 0x22000000#32)
  | .xmread => (.z, 0x23000000#32)
  | .stget => (.z, 0x30000000#32)
  | .stdec _ => (.i, 0x31000000#32)
  | .sttest _ => (.i, 0x32000000#32)
  | .stseed => (.z, 0x33000000#32)

/-- The word of a command selects the command's row: the bits under the format's mask are the row's
`match` word (R91). -/
def EncodedInRow.Statement (i : Instr) : Prop := encode i &&& (rowOf i).1.mask = (rowOf i).2

/-- A packed word under a mask that covers the opcode: bit by bit. -/
theorem pack_and (op a : Byte) (imm : Half) (m p : Word)
    (h : ∀ k : Fin 32, ((if k.val < 16 then imm.getLsbD k else if k.val < 24 then a.getLsbD (k - 16)
      else op.getLsbD (k - 24)) && m.getLsbD k) = p.getLsbD k) : pack op a imm &&& m = p := by
  apply BitVec.eq_of_getLsbD_eq
  intro k hk
  rw [← h ⟨k, hk⟩]
  simp only [pack, BitVec.getLsbD_and, BitVec.getLsbD_append]
  by_cases h1 : k < 16
  · simp [h1]
  · by_cases h2 : k < 24
    · simp [h1, h2, show k - 16 < 8 by omega]
    · simp [h1, h2, show ¬ k - 16 < 8 by omega, show k - 16 - 8 = k - 24 by omega]

theorem EncodedInRow.nop : EncodedInRow.Statement .nop := by
  simp only [EncodedInRow.Statement]; decide
theorem EncodedInRow.setaddr (imm : Half) : EncodedInRow.Statement (.setaddr imm) := by
  apply pack_and; intro k; fin_cases k <;> simp [rowOf, Format.mask]
theorem EncodedInRow.setlen (a : Byte) : EncodedInRow.Statement (.setlen a) := by
  apply pack_and; intro k; fin_cases k <;> simp [rowOf, Format.mask]
theorem EncodedInRow.setmask (imm : Half) : EncodedInRow.Statement (.setmask imm) := by
  apply pack_and; intro k; fin_cases k <;> simp [rowOf, Format.mask]
theorem EncodedInRow.setmode (a : Byte) : EncodedInRow.Statement (.setmode a) := by
  apply pack_and; intro k; fin_cases k <;> simp [rowOf, Format.mask]
theorem EncodedInRow.bufwr (a imm : Byte) : EncodedInRow.Statement (.bufwr a imm) := by
  apply pack_and; intro k; fin_cases k <;> simp [rowOf, Format.mask]
theorem EncodedInRow.bufrd (a : Byte) : EncodedInRow.Statement (.bufrd a) := by
  apply pack_and; intro k; fin_cases k <;> simp [rowOf, Format.mask]
theorem EncodedInRow.ckclr : EncodedInRow.Statement .ckclr := by
  simp only [EncodedInRow.Statement]; decide
theorem EncodedInRow.ckadd (imm : Byte) : EncodedInRow.Statement (.ckadd imm) := by
  apply pack_and; intro k; fin_cases k <;> simp [rowOf, Format.mask]
theorem EncodedInRow.ckfin : EncodedInRow.Statement .ckfin := by
  simp only [EncodedInRow.Statement]; decide
theorem EncodedInRow.ckbuf (a : Byte) : EncodedInRow.Statement (.ckbuf a) := by
  apply pack_and; intro k; fin_cases k <;> simp [rowOf, Format.mask]
theorem EncodedInRow.xmcomp : EncodedInRow.Statement .xmcomp := by
  simp only [EncodedInRow.Statement]; decide
theorem EncodedInRow.xmval : EncodedInRow.Statement .xmval := by
  simp only [EncodedInRow.Statement]; decide
theorem EncodedInRow.xmwrite : EncodedInRow.Statement .xmwrite := by
  simp only [EncodedInRow.Statement]; decide
theorem EncodedInRow.xmread : EncodedInRow.Statement .xmread := by
  simp only [EncodedInRow.Statement]; decide
theorem EncodedInRow.stget : EncodedInRow.Statement .stget := by
  simp only [EncodedInRow.Statement]; decide
theorem EncodedInRow.stdec (imm : Half) : EncodedInRow.Statement (.stdec imm) := by
  apply pack_and; intro k; fin_cases k <;> simp [rowOf, Format.mask]
theorem EncodedInRow.sttest (imm : Half) : EncodedInRow.Statement (.sttest imm) := by
  apply pack_and; intro k; fin_cases k <;> simp [rowOf, Format.mask]
theorem EncodedInRow.stseed : EncodedInRow.Statement .stseed := by
  simp only [EncodedInRow.Statement]; decide

end Sys2Proof.Laws
end

