-- ==== Sys2Proof/Laws/Encoding.lean ====
section
/-! SUPPORT. The fields of a packed word (R90), and what decoding can answer. -/

namespace Sys2Proof

@[simp] theorem opField_pack (op a : Byte) (imm : Half) : opField (pack op a imm) = op := by
  apply BitVec.eq_of_getLsbD_eq
  intro k hk
  simp only [opField, pack, BitVec.getLsbD_extractLsb', BitVec.getLsbD_append]
  simp [hk, show ¬ 24 + k < 16 by omega, show ¬ 24 + k - 16 < 8 by omega,
    show 24 + k - 16 - 8 = k by omega]

@[simp] theorem aField_pack (op a : Byte) (imm : Half) : aField (pack op a imm) = a := by
  apply BitVec.eq_of_getLsbD_eq
  intro k hk
  simp only [aField, pack, BitVec.getLsbD_extractLsb', BitVec.getLsbD_append]
  simp [hk]

@[simp] theorem immField_pack (op a : Byte) (imm : Half) : immField (pack op a imm) = imm := by
  apply BitVec.eq_of_getLsbD_eq
  intro k hk
  simp only [immField, pack, BitVec.getLsbD_extractLsb', BitVec.getLsbD_append]
  simp [hk]

@[simp] theorem imm8Field_pack (op a : Byte) (imm : Half) :
    imm8Field (pack op a imm) = imm.setWidth 8 := by
  apply BitVec.eq_of_getLsbD_eq
  intro k hk
  simp only [imm8Field, pack, BitVec.getLsbD_extractLsb', BitVec.getLsbD_append,
    BitVec.getLsbD_setWidth]
  simp [hk, show k < 16 by omega]

/-- The number of a packed word: opcode, operand and immediate at their places (R90). -/
theorem pack_toNat (op a : Byte) (imm : Half) :
    (pack op a imm).toNat = op.toNat * 0x1000000 + a.toNat * 0x10000 + imm.toNat := by
  have h1 := a.isLt
  have h2 := imm.isLt
  simp only [pack, BitVec.toNat_append, Nat.shiftLeft_eq]
  rw [Nat.mul_comm op.toNat, ← Nat.two_pow_add_eq_or_of_lt h1, Nat.mul_comm _ (2 ^ 16),
    ← Nat.two_pow_add_eq_or_of_lt h2]
  omega

/-- A word is the packing of its own fields. -/
theorem pack_fields (w : Word) : pack (opField w) (aField w) (immField w) = w := by
  apply BitVec.eq_of_getLsbD_eq
  intro k hk
  simp only [opField, aField, immField, pack, BitVec.getLsbD_append, BitVec.getLsbD_extractLsb']
  by_cases h1 : k < 16
  · simp [h1]
  · by_cases h2 : k < 24
    · simp [h1, show k - 16 < 8 by omega, show 16 + (k - 16) = k by omega]
    · simp [h1, show ¬ k - 16 < 8 by omega, show 24 + (k - 16 - 8) = k by omega,
        show k - 16 - 8 < 8 by omega]

/-- Whatever decodes stands in a row of the opcode map and agrees with it under the mask (R91, R93). -/
theorem decode_ok_row {w : Word} {i : Instr} (h : decode w = .ok i) :
    ∃ r ∈ commandTable, r.op = opField w ∧ w &&& r.format.mask = r.pattern ∧ i = r.command w := by
  unfold decode at h
  split at h
  · cases h
  · rename_i r hr
    split at h
    · rename_i hm
      cases h
      exact ⟨r, List.mem_of_find?_eq_some hr, by simpa using List.find?_some hr, hm, rfl⟩
    · cases h

/-- A word that agrees with a row of the opcode map under the row's mask decodes to the row's command. -/
theorem decode_of_row {w : Word} {r : CommandRow}
    (hf : commandTable.find? (fun r => decide (r.op = opField w)) = some r)
    (hm : w &&& r.format.mask = r.pattern) : decode w = .ok (r.command w) := by
  unfold decode
  rw [hf]
  exact if_pos hm

/-- The fields of a masked word are the masked fields. -/
theorem aField_and (w m : Word) : aField (w &&& m) = aField w &&& aField m := by
  apply BitVec.eq_of_getLsbD_eq
  intro k hk
  simp [aField, hk]

theorem immField_and (w m : Word) : immField (w &&& m) = immField w &&& immField m := by
  apply BitVec.eq_of_getLsbD_eq
  intro k hk
  simp [immField, hk]

theorem opField_and (w m : Word) : opField (w &&& m) = opField w &&& opField m := by
  apply BitVec.eq_of_getLsbD_eq
  intro k hk
  simp [opField, hk]

end Sys2Proof
end

