-- ==== Sys2Proof/Laws/Ops.lean ====
section
/-! SUPPORT. What each shared operation leaves in each field, stated once, so that no later proof unfolds one. -/

namespace Sys2Proof.Machine

/-! ### `accept`: acceptance takes the presented word (R98) -/

section accept
variable (s : State)

@[simp] theorem State.accept_addr : s.accept.addr = s.addr := rfl
@[simp] theorem State.accept_len : s.accept.len = s.len := rfl
@[simp] theorem State.accept_mask : s.accept.mask = s.mask := rfl
@[simp] theorem State.accept_out : s.accept.out = s.out := rfl
@[simp] theorem State.accept_acc : s.accept.acc = s.acc := rfl
@[simp] theorem State.accept_csum : s.accept.csum = s.csum := rfl
@[simp] theorem State.accept_stat : s.accept.stat = s.stat := rfl
@[simp] theorem State.accept_secmode : s.accept.secmode = s.secmode := rfl
@[simp] theorem State.accept_res : s.accept.res = s.res := rfl
@[simp] theorem State.accept_rerr : s.accept.rerr = s.rerr := rfl
@[simp] theorem State.accept_rlen : s.accept.rlen = s.rlen := rfl
@[simp] theorem State.accept_flags : s.accept.flags = s.flags := rfl
@[simp] theorem State.accept_buf : s.accept.buf = s.buf := rfl
@[simp] theorem State.accept_ph : s.accept.ph = s.ph := rfl
@[simp] theorem State.accept_orig : s.accept.orig = s.orig := rfl
@[simp] theorem State.accept_chg : s.accept.chg = s.chg := rfl
@[simp] theorem State.accept_e : s.accept.e = s.e := rfl
@[simp] theorem State.accept_history : s.accept.history = s.history := rfl
@[simp] theorem State.accept_hostWords : s.accept.hostWords = s.hostWords.tail := rfl
@[simp] theorem State.accept_twIn : s.accept.twIn = s.twIn := rfl
@[simp] theorem State.accept_statusIn : s.accept.statusIn = s.statusIn := rfl
@[simp] theorem State.accept_frameIn : s.accept.frameIn = s.frameIn := rfl
@[simp] theorem State.accept_sleepIn : s.accept.sleepIn = s.sleepIn := rfl
@[simp] theorem State.accept_secIn : s.accept.secIn = s.secIn := rfl

end accept

/-! ### `logEvent`: the history grows by one entry (R73) -/

section logEvent
variable (s : State) (ev : Event)

@[simp] theorem State.logEvent_addr : (s.logEvent ev).addr = s.addr := rfl
@[simp] theorem State.logEvent_len : (s.logEvent ev).len = s.len := rfl
@[simp] theorem State.logEvent_mask : (s.logEvent ev).mask = s.mask := rfl
@[simp] theorem State.logEvent_out : (s.logEvent ev).out = s.out := rfl
@[simp] theorem State.logEvent_acc : (s.logEvent ev).acc = s.acc := rfl
@[simp] theorem State.logEvent_csum : (s.logEvent ev).csum = s.csum := rfl
@[simp] theorem State.logEvent_stat : (s.logEvent ev).stat = s.stat := rfl
@[simp] theorem State.logEvent_secmode : (s.logEvent ev).secmode = s.secmode := rfl
@[simp] theorem State.logEvent_res : (s.logEvent ev).res = s.res := rfl
@[simp] theorem State.logEvent_rerr : (s.logEvent ev).rerr = s.rerr := rfl
@[simp] theorem State.logEvent_rlen : (s.logEvent ev).rlen = s.rlen := rfl
@[simp] theorem State.logEvent_flags : (s.logEvent ev).flags = s.flags := rfl
@[simp] theorem State.logEvent_buf : (s.logEvent ev).buf = s.buf := rfl
@[simp] theorem State.logEvent_ph : (s.logEvent ev).ph = s.ph := rfl
@[simp] theorem State.logEvent_orig : (s.logEvent ev).orig = s.orig := rfl
@[simp] theorem State.logEvent_chg : (s.logEvent ev).chg = s.chg := rfl
@[simp] theorem State.logEvent_e : (s.logEvent ev).e = s.e := rfl
@[simp] theorem State.logEvent_history : (s.logEvent ev).history = s.history ++ [ev] := rfl
@[simp] theorem State.logEvent_hostWords : (s.logEvent ev).hostWords = s.hostWords := rfl
@[simp] theorem State.logEvent_twIn : (s.logEvent ev).twIn = s.twIn := rfl
@[simp] theorem State.logEvent_statusIn : (s.logEvent ev).statusIn = s.statusIn := rfl
@[simp] theorem State.logEvent_frameIn : (s.logEvent ev).frameIn = s.frameIn := rfl
@[simp] theorem State.logEvent_sleepIn : (s.logEvent ev).sleepIn = s.sleepIn := rfl
@[simp] theorem State.logEvent_secIn : (s.logEvent ev).secIn = s.secIn := rfl

end logEvent

/-! ### `presentWord`: a word is put at the ready port -/

section presentWord
variable (s : State) (w : Word)

@[simp] theorem State.presentWord_addr : (s.presentWord w).addr = s.addr := rfl
@[simp] theorem State.presentWord_len : (s.presentWord w).len = s.len := rfl
@[simp] theorem State.presentWord_mask : (s.presentWord w).mask = s.mask := rfl
@[simp] theorem State.presentWord_out : (s.presentWord w).out = s.out := rfl
@[simp] theorem State.presentWord_acc : (s.presentWord w).acc = s.acc := rfl
@[simp] theorem State.presentWord_csum : (s.presentWord w).csum = s.csum := rfl
@[simp] theorem State.presentWord_stat : (s.presentWord w).stat = s.stat := rfl
@[simp] theorem State.presentWord_secmode : (s.presentWord w).secmode = s.secmode := rfl
@[simp] theorem State.presentWord_res : (s.presentWord w).res = s.res := rfl
@[simp] theorem State.presentWord_rerr : (s.presentWord w).rerr = s.rerr := rfl
@[simp] theorem State.presentWord_rlen : (s.presentWord w).rlen = s.rlen := rfl
@[simp] theorem State.presentWord_flags : (s.presentWord w).flags = s.flags := rfl
@[simp] theorem State.presentWord_buf : (s.presentWord w).buf = s.buf := rfl
@[simp] theorem State.presentWord_ph : (s.presentWord w).ph = .idle := rfl
@[simp] theorem State.presentWord_orig : (s.presentWord w).orig = s.orig := rfl
@[simp] theorem State.presentWord_chg : (s.presentWord w).chg = s.chg := rfl
@[simp] theorem State.presentWord_e : (s.presentWord w).e = s.e := rfl
@[simp] theorem State.presentWord_history : (s.presentWord w).history = s.history := rfl
@[simp] theorem State.presentWord_hostWords : (s.presentWord w).hostWords = w :: s.hostWords.tail := rfl
@[simp] theorem State.presentWord_twIn : (s.presentWord w).twIn = s.twIn := rfl
@[simp] theorem State.presentWord_statusIn : (s.presentWord w).statusIn = s.statusIn := rfl
@[simp] theorem State.presentWord_frameIn : (s.presentWord w).frameIn = s.frameIn := rfl
@[simp] theorem State.presentWord_sleepIn : (s.presentWord w).sleepIn = s.sleepIn := rfl
@[simp] theorem State.presentWord_secIn : (s.presentWord w).secIn = s.secIn := rfl

end presentWord

/-! ### `endCommand`: the word is taken and RES written (R110) -/

section endCommand
variable (s : State) (k : ResultKind)

@[simp] theorem State.endCommand_addr : (s.endCommand k).addr = s.addr := rfl
@[simp] theorem State.endCommand_len : (s.endCommand k).len = s.len := rfl
@[simp] theorem State.endCommand_mask : (s.endCommand k).mask = s.mask := rfl
@[simp] theorem State.endCommand_out : (s.endCommand k).out = s.out := rfl
@[simp] theorem State.endCommand_acc : (s.endCommand k).acc = s.acc := rfl
@[simp] theorem State.endCommand_csum : (s.endCommand k).csum = s.csum := rfl
@[simp] theorem State.endCommand_stat : (s.endCommand k).stat = s.stat := rfl
@[simp] theorem State.endCommand_secmode : (s.endCommand k).secmode = s.secmode := rfl
@[simp] theorem State.endCommand_res : (s.endCommand k).res = k.code := rfl
@[simp] theorem State.endCommand_rerr : (s.endCommand k).rerr = s.rerr := rfl
@[simp] theorem State.endCommand_rlen : (s.endCommand k).rlen = s.rlen := rfl
@[simp] theorem State.endCommand_flags : (s.endCommand k).flags = s.flags := rfl
@[simp] theorem State.endCommand_buf : (s.endCommand k).buf = s.buf := rfl
@[simp] theorem State.endCommand_ph : (s.endCommand k).ph = s.ph := rfl
@[simp] theorem State.endCommand_orig : (s.endCommand k).orig = s.orig := rfl
@[simp] theorem State.endCommand_chg : (s.endCommand k).chg = s.chg := rfl
@[simp] theorem State.endCommand_e : (s.endCommand k).e = s.e := rfl
@[simp] theorem State.endCommand_history : (s.endCommand k).history = s.history := rfl
@[simp] theorem State.endCommand_hostWords : (s.endCommand k).hostWords = s.hostWords.tail := rfl
@[simp] theorem State.endCommand_twIn : (s.endCommand k).twIn = s.twIn := rfl
@[simp] theorem State.endCommand_statusIn : (s.endCommand k).statusIn = s.statusIn := rfl
@[simp] theorem State.endCommand_frameIn : (s.endCommand k).frameIn = s.frameIn := rfl
@[simp] theorem State.endCommand_sleepIn : (s.endCommand k).sleepIn = s.sleepIn := rfl
@[simp] theorem State.endCommand_secIn : (s.endCommand k).secIn = s.secIn := rfl

end endCommand

/-! ### `succeed`: the word is taken and RES = OK -/

section succeed
variable (s : State)

@[simp] theorem State.succeed_addr : s.succeed.addr = s.addr := rfl
@[simp] theorem State.succeed_len : s.succeed.len = s.len := rfl
@[simp] theorem State.succeed_mask : s.succeed.mask = s.mask := rfl
@[simp] theorem State.succeed_out : s.succeed.out = s.out := rfl
@[simp] theorem State.succeed_acc : s.succeed.acc = s.acc := rfl
@[simp] theorem State.succeed_csum : s.succeed.csum = s.csum := rfl
@[simp] theorem State.succeed_stat : s.succeed.stat = s.stat := rfl
@[simp] theorem State.succeed_secmode : s.succeed.secmode = s.secmode := rfl
@[simp] theorem State.succeed_res : s.succeed.res = 0x00#8 := rfl
@[simp] theorem State.succeed_rerr : s.succeed.rerr = s.rerr := rfl
@[simp] theorem State.succeed_rlen : s.succeed.rlen = s.rlen := rfl
@[simp] theorem State.succeed_flags : s.succeed.flags = s.flags := rfl
@[simp] theorem State.succeed_buf : s.succeed.buf = s.buf := rfl
@[simp] theorem State.succeed_ph : s.succeed.ph = s.ph := rfl
@[simp] theorem State.succeed_orig : s.succeed.orig = s.orig := rfl
@[simp] theorem State.succeed_chg : s.succeed.chg = s.chg := rfl
@[simp] theorem State.succeed_e : s.succeed.e = s.e := rfl
@[simp] theorem State.succeed_history : s.succeed.history = s.history := rfl
@[simp] theorem State.succeed_hostWords : s.succeed.hostWords = s.hostWords.tail := rfl
@[simp] theorem State.succeed_twIn : s.succeed.twIn = s.twIn := rfl
@[simp] theorem State.succeed_statusIn : s.succeed.statusIn = s.statusIn := rfl
@[simp] theorem State.succeed_frameIn : s.succeed.frameIn = s.frameIn := rfl
@[simp] theorem State.succeed_sleepIn : s.succeed.sleepIn = s.sleepIn := rfl
@[simp] theorem State.succeed_secIn : s.succeed.secIn = s.secIn := rfl

end succeed

/-! ### `raise`: taking an exception writes RES and nothing else (R175) -/

section raise
variable (s : State) (k : ResultKind)

@[simp] theorem State.raise_addr : (s.raise k).addr = s.addr := rfl
@[simp] theorem State.raise_len : (s.raise k).len = s.len := rfl
@[simp] theorem State.raise_mask : (s.raise k).mask = s.mask := rfl
@[simp] theorem State.raise_out : (s.raise k).out = s.out := rfl
@[simp] theorem State.raise_acc : (s.raise k).acc = s.acc := rfl
@[simp] theorem State.raise_csum : (s.raise k).csum = s.csum := rfl
@[simp] theorem State.raise_stat : (s.raise k).stat = s.stat := rfl
@[simp] theorem State.raise_secmode : (s.raise k).secmode = s.secmode := rfl
@[simp] theorem State.raise_res : (s.raise k).res = k.code := rfl
@[simp] theorem State.raise_rerr : (s.raise k).rerr = s.rerr := rfl
@[simp] theorem State.raise_rlen : (s.raise k).rlen = s.rlen := rfl
@[simp] theorem State.raise_flags : (s.raise k).flags = s.flags := rfl
@[simp] theorem State.raise_buf : (s.raise k).buf = s.buf := rfl
@[simp] theorem State.raise_ph : (s.raise k).ph = s.ph := rfl
@[simp] theorem State.raise_orig : (s.raise k).orig = s.orig := rfl
@[simp] theorem State.raise_chg : (s.raise k).chg = s.chg := rfl
@[simp] theorem State.raise_e : (s.raise k).e = s.e := rfl
@[simp] theorem State.raise_history : (s.raise k).history = s.history := rfl
@[simp] theorem State.raise_hostWords : (s.raise k).hostWords = s.hostWords.tail := rfl
@[simp] theorem State.raise_twIn : (s.raise k).twIn = s.twIn := rfl
@[simp] theorem State.raise_statusIn : (s.raise k).statusIn = s.statusIn := rfl
@[simp] theorem State.raise_frameIn : (s.raise k).frameIn = s.frameIn := rfl
@[simp] theorem State.raise_sleepIn : (s.raise k).sleepIn = s.sleepIn := rfl
@[simp] theorem State.raise_secIn : (s.raise k).secIn = s.secIn := rfl

end raise

/-! ### `leaveBody`: E keeps the result, PH is X_REST (R176) -/

section leaveBody
variable (s : State) (k : ResultKind)

@[simp] theorem State.leaveBody_addr : (s.leaveBody k).addr = s.addr := rfl
@[simp] theorem State.leaveBody_len : (s.leaveBody k).len = s.len := rfl
@[simp] theorem State.leaveBody_mask : (s.leaveBody k).mask = s.mask := rfl
@[simp] theorem State.leaveBody_out : (s.leaveBody k).out = s.out := rfl
@[simp] theorem State.leaveBody_acc : (s.leaveBody k).acc = s.acc := rfl
@[simp] theorem State.leaveBody_csum : (s.leaveBody k).csum = s.csum := rfl
@[simp] theorem State.leaveBody_stat : (s.leaveBody k).stat = s.stat := rfl
@[simp] theorem State.leaveBody_secmode : (s.leaveBody k).secmode = s.secmode := rfl
@[simp] theorem State.leaveBody_res : (s.leaveBody k).res = s.res := rfl
@[simp] theorem State.leaveBody_rerr : (s.leaveBody k).rerr = s.rerr := rfl
@[simp] theorem State.leaveBody_rlen : (s.leaveBody k).rlen = s.rlen := rfl
@[simp] theorem State.leaveBody_flags : (s.leaveBody k).flags = s.flags := rfl
@[simp] theorem State.leaveBody_buf : (s.leaveBody k).buf = s.buf := rfl
@[simp] theorem State.leaveBody_ph : (s.leaveBody k).ph = .xRest := rfl
@[simp] theorem State.leaveBody_orig : (s.leaveBody k).orig = s.orig := rfl
@[simp] theorem State.leaveBody_chg : (s.leaveBody k).chg = s.chg := rfl
@[simp] theorem State.leaveBody_e : (s.leaveBody k).e = k.code := rfl
@[simp] theorem State.leaveBody_history : (s.leaveBody k).history = s.history := rfl
@[simp] theorem State.leaveBody_hostWords : (s.leaveBody k).hostWords = s.hostWords := rfl
@[simp] theorem State.leaveBody_twIn : (s.leaveBody k).twIn = s.twIn := rfl
@[simp] theorem State.leaveBody_statusIn : (s.leaveBody k).statusIn = s.statusIn := rfl
@[simp] theorem State.leaveBody_frameIn : (s.leaveBody k).frameIn = s.frameIn := rfl
@[simp] theorem State.leaveBody_sleepIn : (s.leaveBody k).sleepIn = s.sleepIn := rfl
@[simp] theorem State.leaveBody_secIn : (s.leaveBody k).secIn = s.secIn := rfl

end leaveBody

/-! ### `endTransfer`: RES is written and PH is IDLE (R155) -/

section endTransfer
variable (s : State) (c : Byte)

@[simp] theorem State.endTransfer_addr : (s.endTransfer c).addr = s.addr := rfl
@[simp] theorem State.endTransfer_len : (s.endTransfer c).len = s.len := rfl
@[simp] theorem State.endTransfer_mask : (s.endTransfer c).mask = s.mask := rfl
@[simp] theorem State.endTransfer_out : (s.endTransfer c).out = s.out := rfl
@[simp] theorem State.endTransfer_acc : (s.endTransfer c).acc = s.acc := rfl
@[simp] theorem State.endTransfer_csum : (s.endTransfer c).csum = s.csum := rfl
@[simp] theorem State.endTransfer_stat : (s.endTransfer c).stat = s.stat := rfl
@[simp] theorem State.endTransfer_secmode : (s.endTransfer c).secmode = s.secmode := rfl
@[simp] theorem State.endTransfer_res : (s.endTransfer c).res = c := rfl
@[simp] theorem State.endTransfer_rerr : (s.endTransfer c).rerr = s.rerr := rfl
@[simp] theorem State.endTransfer_rlen : (s.endTransfer c).rlen = s.rlen := rfl
@[simp] theorem State.endTransfer_flags : (s.endTransfer c).flags = s.flags := rfl
@[simp] theorem State.endTransfer_buf : (s.endTransfer c).buf = s.buf := rfl
@[simp] theorem State.endTransfer_ph : (s.endTransfer c).ph = .idle := rfl
@[simp] theorem State.endTransfer_orig : (s.endTransfer c).orig = s.orig := rfl
@[simp] theorem State.endTransfer_chg : (s.endTransfer c).chg = s.chg := rfl
@[simp] theorem State.endTransfer_e : (s.endTransfer c).e = s.e := rfl
@[simp] theorem State.endTransfer_history : (s.endTransfer c).history = s.history := rfl
@[simp] theorem State.endTransfer_hostWords : (s.endTransfer c).hostWords = s.hostWords := rfl
@[simp] theorem State.endTransfer_twIn : (s.endTransfer c).twIn = s.twIn := rfl
@[simp] theorem State.endTransfer_statusIn : (s.endTransfer c).statusIn = s.statusIn := rfl
@[simp] theorem State.endTransfer_frameIn : (s.endTransfer c).frameIn = s.frameIn := rfl
@[simp] theorem State.endTransfer_sleepIn : (s.endTransfer c).sleepIn = s.sleepIn := rfl
@[simp] theorem State.endTransfer_secIn : (s.endTransfer c).secIn = s.secIn := rfl

end endTransfer

/-! ### `setBufByte`: one byte of the buffer is written (R116) -/

section setBufByte
variable (s : State) (i : Nat) (v : Byte)

@[simp] theorem State.setBufByte_addr : (s.setBufByte i v).addr = s.addr := rfl
@[simp] theorem State.setBufByte_len : (s.setBufByte i v).len = s.len := rfl
@[simp] theorem State.setBufByte_mask : (s.setBufByte i v).mask = s.mask := rfl
@[simp] theorem State.setBufByte_out : (s.setBufByte i v).out = s.out := rfl
@[simp] theorem State.setBufByte_acc : (s.setBufByte i v).acc = s.acc := rfl
@[simp] theorem State.setBufByte_csum : (s.setBufByte i v).csum = s.csum := rfl
@[simp] theorem State.setBufByte_stat : (s.setBufByte i v).stat = s.stat := rfl
@[simp] theorem State.setBufByte_secmode : (s.setBufByte i v).secmode = s.secmode := rfl
@[simp] theorem State.setBufByte_res : (s.setBufByte i v).res = s.res := rfl
@[simp] theorem State.setBufByte_rerr : (s.setBufByte i v).rerr = s.rerr := rfl
@[simp] theorem State.setBufByte_rlen : (s.setBufByte i v).rlen = s.rlen := rfl
@[simp] theorem State.setBufByte_flags : (s.setBufByte i v).flags = s.flags := rfl
@[simp] theorem State.setBufByte_buf : (s.setBufByte i v).buf = cellWrite s.buf i v := rfl
@[simp] theorem State.setBufByte_ph : (s.setBufByte i v).ph = s.ph := rfl
@[simp] theorem State.setBufByte_orig : (s.setBufByte i v).orig = s.orig := rfl
@[simp] theorem State.setBufByte_chg : (s.setBufByte i v).chg = s.chg := rfl
@[simp] theorem State.setBufByte_e : (s.setBufByte i v).e = s.e := rfl
@[simp] theorem State.setBufByte_history : (s.setBufByte i v).history = s.history := rfl
@[simp] theorem State.setBufByte_hostWords : (s.setBufByte i v).hostWords = s.hostWords := rfl
@[simp] theorem State.setBufByte_twIn : (s.setBufByte i v).twIn = s.twIn := rfl
@[simp] theorem State.setBufByte_statusIn : (s.setBufByte i v).statusIn = s.statusIn := rfl
@[simp] theorem State.setBufByte_frameIn : (s.setBufByte i v).frameIn = s.frameIn := rfl
@[simp] theorem State.setBufByte_sleepIn : (s.setBufByte i v).sleepIn = s.sleepIn := rfl
@[simp] theorem State.setBufByte_secIn : (s.setBufByte i v).secIn = s.secIn := rfl

end setBufByte

/-! ### `loadBuf`: the whole buffer is replaced (R151) -/

section loadBuf
variable (s : State) (data : Bytes 36)

@[simp] theorem State.loadBuf_addr : (s.loadBuf data).addr = s.addr := rfl
@[simp] theorem State.loadBuf_len : (s.loadBuf data).len = s.len := rfl
@[simp] theorem State.loadBuf_mask : (s.loadBuf data).mask = s.mask := rfl
@[simp] theorem State.loadBuf_out : (s.loadBuf data).out = s.out := rfl
@[simp] theorem State.loadBuf_acc : (s.loadBuf data).acc = s.acc := rfl
@[simp] theorem State.loadBuf_csum : (s.loadBuf data).csum = s.csum := rfl
@[simp] theorem State.loadBuf_stat : (s.loadBuf data).stat = s.stat := rfl
@[simp] theorem State.loadBuf_secmode : (s.loadBuf data).secmode = s.secmode := rfl
@[simp] theorem State.loadBuf_res : (s.loadBuf data).res = s.res := rfl
@[simp] theorem State.loadBuf_rerr : (s.loadBuf data).rerr = s.rerr := rfl
@[simp] theorem State.loadBuf_rlen : (s.loadBuf data).rlen = s.rlen := rfl
@[simp] theorem State.loadBuf_flags : (s.loadBuf data).flags = s.flags := rfl
@[simp] theorem State.loadBuf_buf : (s.loadBuf data).buf = cellsOf data.bytes := rfl
@[simp] theorem State.loadBuf_ph : (s.loadBuf data).ph = s.ph := rfl
@[simp] theorem State.loadBuf_orig : (s.loadBuf data).orig = s.orig := rfl
@[simp] theorem State.loadBuf_chg : (s.loadBuf data).chg = s.chg := rfl
@[simp] theorem State.loadBuf_e : (s.loadBuf data).e = s.e := rfl
@[simp] theorem State.loadBuf_history : (s.loadBuf data).history = s.history := rfl
@[simp] theorem State.loadBuf_hostWords : (s.loadBuf data).hostWords = s.hostWords := rfl
@[simp] theorem State.loadBuf_twIn : (s.loadBuf data).twIn = s.twIn := rfl
@[simp] theorem State.loadBuf_statusIn : (s.loadBuf data).statusIn = s.statusIn := rfl
@[simp] theorem State.loadBuf_frameIn : (s.loadBuf data).frameIn = s.frameIn := rfl
@[simp] theorem State.loadBuf_sleepIn : (s.loadBuf data).sleepIn = s.sleepIn := rfl
@[simp] theorem State.loadBuf_secIn : (s.loadBuf data).secIn = s.secIn := rfl

end loadBuf

/-! ### `setM`: FLAGS is written with a new M (R32) -/

section setM
variable (s : State) (v : Bool)

@[simp] theorem State.setM_addr : (s.setM v).addr = s.addr := rfl
@[simp] theorem State.setM_len : (s.setM v).len = s.len := rfl
@[simp] theorem State.setM_mask : (s.setM v).mask = s.mask := rfl
@[simp] theorem State.setM_out : (s.setM v).out = s.out := rfl
@[simp] theorem State.setM_acc : (s.setM v).acc = s.acc := rfl
@[simp] theorem State.setM_csum : (s.setM v).csum = s.csum := rfl
@[simp] theorem State.setM_stat : (s.setM v).stat = s.stat := rfl
@[simp] theorem State.setM_secmode : (s.setM v).secmode = s.secmode := rfl
@[simp] theorem State.setM_res : (s.setM v).res = s.res := rfl
@[simp] theorem State.setM_rerr : (s.setM v).rerr = s.rerr := rfl
@[simp] theorem State.setM_rlen : (s.setM v).rlen = s.rlen := rfl
@[simp] theorem State.setM_flags : (s.setM v).flags = flagsOf s.flagLenbad v := rfl
@[simp] theorem State.setM_buf : (s.setM v).buf = s.buf := rfl
@[simp] theorem State.setM_ph : (s.setM v).ph = s.ph := rfl
@[simp] theorem State.setM_orig : (s.setM v).orig = s.orig := rfl
@[simp] theorem State.setM_chg : (s.setM v).chg = s.chg := rfl
@[simp] theorem State.setM_e : (s.setM v).e = s.e := rfl
@[simp] theorem State.setM_history : (s.setM v).history = s.history := rfl
@[simp] theorem State.setM_hostWords : (s.setM v).hostWords = s.hostWords := rfl
@[simp] theorem State.setM_twIn : (s.setM v).twIn = s.twIn := rfl
@[simp] theorem State.setM_statusIn : (s.setM v).statusIn = s.statusIn := rfl
@[simp] theorem State.setM_frameIn : (s.setM v).frameIn = s.frameIn := rfl
@[simp] theorem State.setM_sleepIn : (s.setM v).sleepIn = s.sleepIn := rfl
@[simp] theorem State.setM_secIn : (s.setM v).secIn = s.secIn := rfl

end setM

/-! ### `setLenbad`: FLAGS is written with a new LENBAD (R32) -/

section setLenbad
variable (s : State) (v : Bool)

@[simp] theorem State.setLenbad_addr : (s.setLenbad v).addr = s.addr := rfl
@[simp] theorem State.setLenbad_len : (s.setLenbad v).len = s.len := rfl
@[simp] theorem State.setLenbad_mask : (s.setLenbad v).mask = s.mask := rfl
@[simp] theorem State.setLenbad_out : (s.setLenbad v).out = s.out := rfl
@[simp] theorem State.setLenbad_acc : (s.setLenbad v).acc = s.acc := rfl
@[simp] theorem State.setLenbad_csum : (s.setLenbad v).csum = s.csum := rfl
@[simp] theorem State.setLenbad_stat : (s.setLenbad v).stat = s.stat := rfl
@[simp] theorem State.setLenbad_secmode : (s.setLenbad v).secmode = s.secmode := rfl
@[simp] theorem State.setLenbad_res : (s.setLenbad v).res = s.res := rfl
@[simp] theorem State.setLenbad_rerr : (s.setLenbad v).rerr = s.rerr := rfl
@[simp] theorem State.setLenbad_rlen : (s.setLenbad v).rlen = s.rlen := rfl
@[simp] theorem State.setLenbad_flags : (s.setLenbad v).flags = flagsOf v s.flagM := rfl
@[simp] theorem State.setLenbad_buf : (s.setLenbad v).buf = s.buf := rfl
@[simp] theorem State.setLenbad_ph : (s.setLenbad v).ph = s.ph := rfl
@[simp] theorem State.setLenbad_orig : (s.setLenbad v).orig = s.orig := rfl
@[simp] theorem State.setLenbad_chg : (s.setLenbad v).chg = s.chg := rfl
@[simp] theorem State.setLenbad_e : (s.setLenbad v).e = s.e := rfl
@[simp] theorem State.setLenbad_history : (s.setLenbad v).history = s.history := rfl
@[simp] theorem State.setLenbad_hostWords : (s.setLenbad v).hostWords = s.hostWords := rfl
@[simp] theorem State.setLenbad_twIn : (s.setLenbad v).twIn = s.twIn := rfl
@[simp] theorem State.setLenbad_statusIn : (s.setLenbad v).statusIn = s.statusIn := rfl
@[simp] theorem State.setLenbad_frameIn : (s.setLenbad v).frameIn = s.frameIn := rfl
@[simp] theorem State.setLenbad_sleepIn : (s.setLenbad v).sleepIn = s.sleepIn := rfl
@[simp] theorem State.setLenbad_secIn : (s.setLenbad v).secIn = s.secIn := rfl

end setLenbad

/-! ### `deliver`: CSUM and OUT get the checksum (R124) -/

section deliver
variable (s : State) (c : Byte)

@[simp] theorem State.deliver_addr : (s.deliver c).addr = s.addr := rfl
@[simp] theorem State.deliver_len : (s.deliver c).len = s.len := rfl
@[simp] theorem State.deliver_mask : (s.deliver c).mask = s.mask := rfl
@[simp] theorem State.deliver_out : (s.deliver c).out = c.setWidth 16 := rfl
@[simp] theorem State.deliver_acc : (s.deliver c).acc = s.acc := rfl
@[simp] theorem State.deliver_csum : (s.deliver c).csum = c := rfl
@[simp] theorem State.deliver_stat : (s.deliver c).stat = s.stat := rfl
@[simp] theorem State.deliver_secmode : (s.deliver c).secmode = s.secmode := rfl
@[simp] theorem State.deliver_res : (s.deliver c).res = s.res := rfl
@[simp] theorem State.deliver_rerr : (s.deliver c).rerr = s.rerr := rfl
@[simp] theorem State.deliver_rlen : (s.deliver c).rlen = s.rlen := rfl
@[simp] theorem State.deliver_flags : (s.deliver c).flags = s.flags := rfl
@[simp] theorem State.deliver_buf : (s.deliver c).buf = s.buf := rfl
@[simp] theorem State.deliver_ph : (s.deliver c).ph = s.ph := rfl
@[simp] theorem State.deliver_orig : (s.deliver c).orig = s.orig := rfl
@[simp] theorem State.deliver_chg : (s.deliver c).chg = s.chg := rfl
@[simp] theorem State.deliver_e : (s.deliver c).e = s.e := rfl
@[simp] theorem State.deliver_history : (s.deliver c).history = s.history := rfl
@[simp] theorem State.deliver_hostWords : (s.deliver c).hostWords = s.hostWords := rfl
@[simp] theorem State.deliver_twIn : (s.deliver c).twIn = s.twIn := rfl
@[simp] theorem State.deliver_statusIn : (s.deliver c).statusIn = s.statusIn := rfl
@[simp] theorem State.deliver_frameIn : (s.deliver c).frameIn = s.frameIn := rfl
@[simp] theorem State.deliver_sleepIn : (s.deliver c).sleepIn = s.sleepIn := rfl
@[simp] theorem State.deliver_secIn : (s.deliver c).secIn = s.secIn := rfl

end deliver

/-! ### `stampAddress`: BUF[0] and BUF[1] get the address (R133) -/

section stampAddress
variable (s : State)

@[simp] theorem State.stampAddress_addr : s.stampAddress.addr = s.addr := rfl
@[simp] theorem State.stampAddress_len : s.stampAddress.len = s.len := rfl
@[simp] theorem State.stampAddress_mask : s.stampAddress.mask = s.mask := rfl
@[simp] theorem State.stampAddress_out : s.stampAddress.out = s.out := rfl
@[simp] theorem State.stampAddress_acc : s.stampAddress.acc = s.acc := rfl
@[simp] theorem State.stampAddress_csum : s.stampAddress.csum = s.csum := rfl
@[simp] theorem State.stampAddress_stat : s.stampAddress.stat = s.stat := rfl
@[simp] theorem State.stampAddress_secmode : s.stampAddress.secmode = s.secmode := rfl
@[simp] theorem State.stampAddress_res : s.stampAddress.res = s.res := rfl
@[simp] theorem State.stampAddress_rerr : s.stampAddress.rerr = s.rerr := rfl
@[simp] theorem State.stampAddress_rlen : s.stampAddress.rlen = s.rlen := rfl
@[simp] theorem State.stampAddress_flags : s.stampAddress.flags = s.flags := rfl
@[simp] theorem State.stampAddress_buf : s.stampAddress.buf = cellWrite (cellWrite s.buf 0 s.addrLo) 1 s.addrHi := rfl
@[simp] theorem State.stampAddress_ph : s.stampAddress.ph = s.ph := rfl
@[simp] theorem State.stampAddress_orig : s.stampAddress.orig = s.orig := rfl
@[simp] theorem State.stampAddress_chg : s.stampAddress.chg = s.chg := rfl
@[simp] theorem State.stampAddress_e : s.stampAddress.e = s.e := rfl
@[simp] theorem State.stampAddress_history : s.stampAddress.history = s.history := rfl
@[simp] theorem State.stampAddress_hostWords : s.stampAddress.hostWords = s.hostWords := rfl
@[simp] theorem State.stampAddress_twIn : s.stampAddress.twIn = s.twIn := rfl
@[simp] theorem State.stampAddress_statusIn : s.stampAddress.statusIn = s.statusIn := rfl
@[simp] theorem State.stampAddress_frameIn : s.stampAddress.frameIn = s.frameIn := rfl
@[simp] theorem State.stampAddress_sleepIn : s.stampAddress.sleepIn = s.sleepIn := rfl
@[simp] theorem State.stampAddress_secIn : s.stampAddress.secIn = s.secIn := rfl

end stampAddress

/-! ### `stampTrailer`: CSUM, BUF[34] and BUF[35] get the trailer (R133) -/

section stampTrailer
variable (s : State)

@[simp] theorem State.stampTrailer_addr : s.stampTrailer.addr = s.addr := by
  simp only [State.stampTrailer, State.setBufByte_addr, State.setCsum_addr]
@[simp] theorem State.stampTrailer_len : s.stampTrailer.len = s.len := by
  simp only [State.stampTrailer, State.setBufByte_len, State.setCsum_len]
@[simp] theorem State.stampTrailer_mask : s.stampTrailer.mask = s.mask := by
  simp only [State.stampTrailer, State.setBufByte_mask, State.setCsum_mask]
@[simp] theorem State.stampTrailer_out : s.stampTrailer.out = s.out := by
  simp only [State.stampTrailer, State.setBufByte_out, State.setCsum_out]
@[simp] theorem State.stampTrailer_acc : s.stampTrailer.acc = s.acc := by
  simp only [State.stampTrailer, State.setBufByte_acc, State.setCsum_acc]
@[simp] theorem State.stampTrailer_csum : s.stampTrailer.csum = checksum s.frameHead := by
  simp only [State.stampTrailer, State.setBufByte_csum, State.setCsum_csum]
@[simp] theorem State.stampTrailer_stat : s.stampTrailer.stat = s.stat := by
  simp only [State.stampTrailer, State.setBufByte_stat, State.setCsum_stat]
@[simp] theorem State.stampTrailer_secmode : s.stampTrailer.secmode = s.secmode := by
  simp only [State.stampTrailer, State.setBufByte_secmode, State.setCsum_secmode]
@[simp] theorem State.stampTrailer_res : s.stampTrailer.res = s.res := by
  simp only [State.stampTrailer, State.setBufByte_res, State.setCsum_res]
@[simp] theorem State.stampTrailer_rerr : s.stampTrailer.rerr = s.rerr := by
  simp only [State.stampTrailer, State.setBufByte_rerr, State.setCsum_rerr]
@[simp] theorem State.stampTrailer_rlen : s.stampTrailer.rlen = s.rlen := by
  simp only [State.stampTrailer, State.setBufByte_rlen, State.setCsum_rlen]
@[simp] theorem State.stampTrailer_flags : s.stampTrailer.flags = s.flags := by
  simp only [State.stampTrailer, State.setBufByte_flags, State.setCsum_flags]
@[simp] theorem State.stampTrailer_buf : s.stampTrailer.buf = cellWrite (cellWrite s.buf 34 (checksum s.frameHead)) 35 s.lengthByte := by
  simp only [State.stampTrailer, State.setBufByte_buf, State.setCsum_buf]
@[simp] theorem State.stampTrailer_ph : s.stampTrailer.ph = s.ph := by
  simp only [State.stampTrailer, State.setBufByte_ph, State.setCsum_ph]
@[simp] theorem State.stampTrailer_orig : s.stampTrailer.orig = s.orig := by
  simp only [State.stampTrailer, State.setBufByte_orig, State.setCsum_orig]
@[simp] theorem State.stampTrailer_chg : s.stampTrailer.chg = s.chg := by
  simp only [State.stampTrailer, State.setBufByte_chg, State.setCsum_chg]
@[simp] theorem State.stampTrailer_e : s.stampTrailer.e = s.e := by
  simp only [State.stampTrailer, State.setBufByte_e, State.setCsum_e]
@[simp] theorem State.stampTrailer_history : s.stampTrailer.history = s.history := by
  simp only [State.stampTrailer, State.setBufByte_history, State.setCsum_history]
@[simp] theorem State.stampTrailer_hostWords : s.stampTrailer.hostWords = s.hostWords := by
  simp only [State.stampTrailer, State.setBufByte_hostWords, State.setCsum_hostWords]
@[simp] theorem State.stampTrailer_twIn : s.stampTrailer.twIn = s.twIn := by
  simp only [State.stampTrailer, State.setBufByte_twIn, State.setCsum_twIn]
@[simp] theorem State.stampTrailer_statusIn : s.stampTrailer.statusIn = s.statusIn := by
  simp only [State.stampTrailer, State.setBufByte_statusIn, State.setCsum_statusIn]
@[simp] theorem State.stampTrailer_frameIn : s.stampTrailer.frameIn = s.frameIn := by
  simp only [State.stampTrailer, State.setBufByte_frameIn, State.setCsum_frameIn]
@[simp] theorem State.stampTrailer_sleepIn : s.stampTrailer.sleepIn = s.sleepIn := by
  simp only [State.stampTrailer, State.setBufByte_sleepIn, State.setCsum_sleepIn]
@[simp] theorem State.stampTrailer_secIn : s.stampTrailer.secIn = s.secIn := by
  simp only [State.stampTrailer, State.setBufByte_secIn, State.setCsum_secIn]

end stampTrailer

/-! ### `clearResult`: RLEN and LENBAD are cleared (R135) -/

section clearResult
variable (s : State)

@[simp] theorem State.clearResult_addr : s.clearResult.addr = s.addr := rfl
@[simp] theorem State.clearResult_len : s.clearResult.len = s.len := rfl
@[simp] theorem State.clearResult_mask : s.clearResult.mask = s.mask := rfl
@[simp] theorem State.clearResult_out : s.clearResult.out = s.out := rfl
@[simp] theorem State.clearResult_acc : s.clearResult.acc = s.acc := rfl
@[simp] theorem State.clearResult_csum : s.clearResult.csum = s.csum := rfl
@[simp] theorem State.clearResult_stat : s.clearResult.stat = s.stat := rfl
@[simp] theorem State.clearResult_secmode : s.clearResult.secmode = s.secmode := rfl
@[simp] theorem State.clearResult_res : s.clearResult.res = s.res := rfl
@[simp] theorem State.clearResult_rerr : s.clearResult.rerr = s.rerr := rfl
@[simp] theorem State.clearResult_rlen : s.clearResult.rlen = 0x00#8 := rfl
@[simp] theorem State.clearResult_flags : s.clearResult.flags = flagsOf false s.flagM := rfl
@[simp] theorem State.clearResult_buf : s.clearResult.buf = s.buf := rfl
@[simp] theorem State.clearResult_ph : s.clearResult.ph = s.ph := rfl
@[simp] theorem State.clearResult_orig : s.clearResult.orig = s.orig := rfl
@[simp] theorem State.clearResult_chg : s.clearResult.chg = s.chg := rfl
@[simp] theorem State.clearResult_e : s.clearResult.e = s.e := rfl
@[simp] theorem State.clearResult_history : s.clearResult.history = s.history := rfl
@[simp] theorem State.clearResult_hostWords : s.clearResult.hostWords = s.hostWords := rfl
@[simp] theorem State.clearResult_twIn : s.clearResult.twIn = s.twIn := rfl
@[simp] theorem State.clearResult_statusIn : s.clearResult.statusIn = s.statusIn := rfl
@[simp] theorem State.clearResult_frameIn : s.clearResult.frameIn = s.frameIn := rfl
@[simp] theorem State.clearResult_sleepIn : s.clearResult.sleepIn = s.sleepIn := rfl
@[simp] theorem State.clearResult_secIn : s.clearResult.secIn = s.secIn := rfl

end clearResult

/-! ### `beginTransfer`: RERR, ORIG, CHG and E are set up (R141) -/

section beginTransfer
variable (s : State)

@[simp] theorem State.beginTransfer_addr : s.beginTransfer.addr = s.addr := by
  simp only [State.beginTransfer, State.setE_addr, State.setChg_addr, State.setOrig_addr, State.setRerr_addr]
@[simp] theorem State.beginTransfer_len : s.beginTransfer.len = s.len := by
  simp only [State.beginTransfer, State.setE_len, State.setChg_len, State.setOrig_len, State.setRerr_len]
@[simp] theorem State.beginTransfer_mask : s.beginTransfer.mask = s.mask := by
  simp only [State.beginTransfer, State.setE_mask, State.setChg_mask, State.setOrig_mask, State.setRerr_mask]
@[simp] theorem State.beginTransfer_out : s.beginTransfer.out = s.out := by
  simp only [State.beginTransfer, State.setE_out, State.setChg_out, State.setOrig_out, State.setRerr_out]
@[simp] theorem State.beginTransfer_acc : s.beginTransfer.acc = s.acc := by
  simp only [State.beginTransfer, State.setE_acc, State.setChg_acc, State.setOrig_acc, State.setRerr_acc]
@[simp] theorem State.beginTransfer_csum : s.beginTransfer.csum = s.csum := by
  simp only [State.beginTransfer, State.setE_csum, State.setChg_csum, State.setOrig_csum, State.setRerr_csum]
@[simp] theorem State.beginTransfer_stat : s.beginTransfer.stat = s.stat := by
  simp only [State.beginTransfer, State.setE_stat, State.setChg_stat, State.setOrig_stat, State.setRerr_stat]
@[simp] theorem State.beginTransfer_secmode : s.beginTransfer.secmode = s.secmode := by
  simp only [State.beginTransfer, State.setE_secmode, State.setChg_secmode, State.setOrig_secmode, State.setRerr_secmode]
@[simp] theorem State.beginTransfer_res : s.beginTransfer.res = s.res := by
  simp only [State.beginTransfer, State.setE_res, State.setChg_res, State.setOrig_res, State.setRerr_res]
@[simp] theorem State.beginTransfer_rerr : s.beginTransfer.rerr = 0x00#8 := by
  simp only [State.beginTransfer, State.setE_rerr, State.setChg_rerr, State.setOrig_rerr, State.setRerr_rerr]
@[simp] theorem State.beginTransfer_rlen : s.beginTransfer.rlen = s.rlen := by
  simp only [State.beginTransfer, State.setE_rlen, State.setChg_rlen, State.setOrig_rlen, State.setRerr_rlen]
@[simp] theorem State.beginTransfer_flags : s.beginTransfer.flags = s.flags := by
  simp only [State.beginTransfer, State.setE_flags, State.setChg_flags, State.setOrig_flags, State.setRerr_flags]
@[simp] theorem State.beginTransfer_buf : s.beginTransfer.buf = s.buf := by
  simp only [State.beginTransfer, State.setE_buf, State.setChg_buf, State.setOrig_buf, State.setRerr_buf]
@[simp] theorem State.beginTransfer_ph : s.beginTransfer.ph = s.ph := by
  simp only [State.beginTransfer, State.setE_ph, State.setChg_ph, State.setOrig_ph, State.setRerr_ph]
@[simp] theorem State.beginTransfer_orig : s.beginTransfer.orig = s.secmode := by
  simp only [State.beginTransfer, State.setE_orig, State.setChg_orig, State.setOrig_orig]
@[simp] theorem State.beginTransfer_chg : s.beginTransfer.chg = false := by
  simp only [State.beginTransfer, State.setE_chg, State.setChg_chg]
@[simp] theorem State.beginTransfer_e : s.beginTransfer.e = 0x00#8 := by
  simp only [State.beginTransfer, State.setE_e]
@[simp] theorem State.beginTransfer_history : s.beginTransfer.history = s.history := by
  simp only [State.beginTransfer, State.setE_history, State.setChg_history, State.setOrig_history, State.setRerr_history]
@[simp] theorem State.beginTransfer_hostWords : s.beginTransfer.hostWords = s.hostWords := by
  simp only [State.beginTransfer, State.setE_hostWords, State.setChg_hostWords, State.setOrig_hostWords, State.setRerr_hostWords]
@[simp] theorem State.beginTransfer_twIn : s.beginTransfer.twIn = s.twIn := by
  simp only [State.beginTransfer, State.setE_twIn, State.setChg_twIn, State.setOrig_twIn, State.setRerr_twIn]
@[simp] theorem State.beginTransfer_statusIn : s.beginTransfer.statusIn = s.statusIn := by
  simp only [State.beginTransfer, State.setE_statusIn, State.setChg_statusIn, State.setOrig_statusIn, State.setRerr_statusIn]
@[simp] theorem State.beginTransfer_frameIn : s.beginTransfer.frameIn = s.frameIn := by
  simp only [State.beginTransfer, State.setE_frameIn, State.setChg_frameIn, State.setOrig_frameIn, State.setRerr_frameIn]
@[simp] theorem State.beginTransfer_sleepIn : s.beginTransfer.sleepIn = s.sleepIn := by
  simp only [State.beginTransfer, State.setE_sleepIn, State.setChg_sleepIn, State.setOrig_sleepIn, State.setRerr_sleepIn]
@[simp] theorem State.beginTransfer_secIn : s.beginTransfer.secIn = s.secIn := by
  simp only [State.beginTransfer, State.setE_secIn, State.setChg_secIn, State.setOrig_secIn, State.setRerr_secIn]

end beginTransfer

end Sys2Proof.Machine
end

