-- ==== Sys2Proof/Laws/Operands.lean ====
section
/-! SUPPORT. The flags, the argument check, the checksum's sum, the status word and SEC_DECODE: what each
can be. -/

namespace Sys2Proof.Machine

/-! ### Flags (R32) -/

theorem flagsOf_m (l m : Bool) : (flagsOf l m).getLsbD 0 = m := by cases l <;> cases m <;> rfl

theorem flagsOf_lenbad (l m : Bool) : (flagsOf l m).getLsbD 1 = l := by cases l <;> cases m <;> rfl

@[simp] theorem State.setM_flagM (s : State) (v : Bool) : (s.setM v).flagM = v := flagsOf_m _ _

@[simp] theorem State.setM_flagLenbad (s : State) (v : Bool) :
    (s.setM v).flagLenbad = s.flagLenbad := flagsOf_lenbad _ _

@[simp] theorem State.setLenbad_flagLenbad (s : State) (v : Bool) :
    (s.setLenbad v).flagLenbad = v := flagsOf_lenbad _ _

@[simp] theorem State.setLenbad_flagM (s : State) (v : Bool) :
    (s.setLenbad v).flagM = s.flagM := flagsOf_m _ _

/-! ### The argument check (R132) -/

theorem State.argsOk_iff (s : State) :
    s.argsOk = true ↔
      (0x4000 ≤ s.addr.toNat ∧ s.addr.toNat ≤ 0x43FF) ∧ 1 ≤ s.len.toNat ∧ s.len.toNat ≤ 32 := by
  simp [State.argsOk, xmLo, xmHi, payMin, payMax]

/-- Within the checked range the length byte is payload length + 4, without wrapping (R137). -/
theorem State.lengthByte_toNat (s : State) (h : s.argsOk = true) :
    s.lengthByte.toNat = s.len.toNat + 4 := by
  have := (s.argsOk_iff.mp h).2
  simp only [State.lengthByte, lenOverhead, BitVec.toNat_ofNat]
  omega

/-! ### The sum of bytes (R120, R126) -/

theorem sumBytes_toNat (bs : List Byte) :
    (sumBytes bs).toNat = (bs.map BitVec.toNat).sum % 256 := by
  simp [sumBytes]

@[simp] theorem sumBytes_nil : sumBytes [] = 0#8 := rfl

theorem sumBytes_append (bs cs : List Byte) : sumBytes (bs ++ cs) = sumBytes bs + sumBytes cs := by
  apply BitVec.eq_of_toNat_eq
  simp [sumBytes_toNat]

theorem sumBytes_singleton (b : Byte) : sumBytes [b] = b := by
  apply BitVec.eq_of_toNat_eq
  simp only [sumBytes_toNat, List.map_cons, List.map_nil, List.sum_cons, List.sum_nil]
  have := b.isLt
  omega

theorem sumBytes_cons (b : Byte) (bs : List Byte) : sumBytes (b :: bs) = b + sumBytes bs := by
  rw [← List.singleton_append, sumBytes_append, sumBytes_singleton]

/-! ### The buffer as a sequence (R8) -/

@[simp] theorem State.bufBytes_length (s : State) (n : Nat) : (s.bufBytes n).length = n := by
  simp [State.bufBytes]

theorem State.bufBytes_congr (s t : State) (n : Nat) (h : ∀ i < n, s.bufByte i = t.bufByte i) :
    s.bufBytes n = t.bufBytes n := by
  simp only [State.bufBytes]
  exact List.map_congr_left fun i hi => h i (List.mem_range.mp hi)

/-! ### SEC_DECODE (R7, D9) -/

/-- Whichever function SEC_DECODE is, each mode has exactly one code. -/
theorem secDecodeOf_bijective (k : Fin 24) : ∀ m : SecMode, ∃ c : BitVec 2, secDecodeOf k c = m ∧
    ∀ c', secDecodeOf k c' = m → c' = c := by
  have h : ∀ k : Fin 24, ∀ m ∈ [SecMode.unknown, .sealed, .unsealed, .fullAccess],
      ∃ c : BitVec 2, secDecodeOf k c = m ∧ ∀ c', secDecodeOf k c' = m → c' = c := by decide
  intro m
  exact h k m (by cases m <;> simp)

/-- The parameter leaves none of the admissible functions out: the 24 listed ones differ from each other,
and four modes can be given to four codes, one each, in 24 ways. -/
theorem secDecodeOf_nodup :
    ((List.finRange 24).map fun k =>
      [secDecodeOf k 0#2, secDecodeOf k 1#2, secDecodeOf k 2#2, secDecodeOf k 3#2]).Nodup := by decide

end Sys2Proof.Machine
end

