-- ==== Sys2Proof/Laws/Ports.lean ====
section
/-! SUPPORT. The ports: each `ask` either finds no answer, and then nothing happens, or takes the oldest
answer and logs the event with it (R68 to R73). -/

namespace Sys2Proof.Machine

theorem State.askTw_none_iff (s : State) (reg : Byte) (bytes : List Byte) :
    s.askTw reg bytes = none ↔ s.twIn = [] := by
  unfold State.askTw
  split <;> simp [*]

theorem State.askTw_some_iff (s t : State) (reg : Byte) (bytes : List Byte) (ans : TwAnswer) :
    s.askTw reg bytes = some (ans, t) ↔
      ∃ rest, s.twIn = ans :: rest ∧ t = (s.setTwIn rest).logEvent (.tw reg bytes ans) := by
  unfold State.askTw
  split <;> simp_all [eq_comm]

theorem State.askStatus_none_iff (s : State) : s.askStatus = none ↔ s.statusIn = [] := by
  unfold State.askStatus
  split <;> simp [*]

theorem State.askStatus_some_iff (s t : State) (ans : TrAnswer 2) :
    s.askStatus = some (ans, t) ↔
      ∃ rest, s.statusIn = ans :: rest ∧
        t = (s.setStatusIn rest).logEvent (.tr Config.regControl [] 2 ans) := by
  unfold State.askStatus
  split <;> simp_all [eq_comm]

theorem State.askFrame_none_iff (s : State) : s.askFrame = none ↔ s.frameIn = [] := by
  unfold State.askFrame
  split <;> simp [*]

theorem State.askFrame_some_iff (s t : State) (ans : TrAnswer 36) :
    s.askFrame = some (ans, t) ↔
      ∃ rest, s.frameIn = ans :: rest ∧
        t = (s.setFrameIn rest).logEvent (.tr Config.regMac [] 36 ans) := by
  unfold State.askFrame
  split <;> simp_all [eq_comm]

theorem State.askSleep_none_iff (s : State) (d : Nat) : s.askSleep d = none ↔ s.sleepIn = 0 := by
  unfold State.askSleep
  split <;> simp [*]

theorem State.askSleep_some_iff (s t : State) (d : Nat) :
    s.askSleep d = some t ↔
      ∃ n, s.sleepIn = n + 1 ∧ t = (s.setSleepIn n).logEvent (.sleep d) := by
  unfold State.askSleep
  split <;> simp_all [eq_comm]

theorem State.askSec_none_iff (s : State) (m : SecMode) : s.askSec m = none ↔ s.secIn = [] := by
  unfold State.askSec
  split <;> simp [*]

theorem State.askSec_some_iff (s t : State) (m : SecMode) (ans : SecAnswer) :
    s.askSec m = some (ans, t) ↔
      ∃ rest, s.secIn = ans :: rest ∧ t = (s.setSecIn rest).logEvent (.secreq m ans) := by
  unfold State.askSec
  split <;> simp_all [eq_comm]

end Sys2Proof.Machine
end

