-- ==== Sys2Proof/Laws/Step.lean ====
section
/-! SUPPORT. Everything one step can be: a phase of a transfer, waiting for the host, a command, or an illegal
word. -/

namespace Sys2Proof.Machine

/-- The four cases of a step that answers a next state. -/
theorem step_cases {s t : State} (h : step s = .next t) :
    (s.ph ≠ .idle ∧ t = runPhase s) ∨
    (s.ph = .idle ∧ s.hostWords = [] ∧ t = s) ∨
    (∃ w rest i, s.ph = .idle ∧ s.hostWords = w :: rest ∧ decode w = .ok i ∧ exec i s = .next t) ∨
    (∃ w rest err, s.ph = .idle ∧ s.hostWords = w :: rest ∧ decode w = .error err ∧
      t = s.illegalWord) := by
  unfold step at h
  by_cases hp : s.ph = .idle
  · right
    rcases hw : s.hostWords with _ | ⟨w, rest⟩
    · left
      simp only [State.ready, State.presented, hp, hw, decide_true, List.head?_nil] at h
      cases h
      exact ⟨hp, rfl, rfl⟩
    · right
      simp only [State.ready, State.presented, hp, hw, decide_true, List.head?_cons] at h
      split at h
      · left
        exact ⟨w, rest, _, hp, rfl, ‹_›, h⟩
      · right
        cases h
        exact ⟨w, rest, _, hp, rfl, ‹_›, rfl⟩
  · left
    simp only [State.ready, hp, decide_false] at h
    cases h
    exact ⟨hp, rfl⟩

end Sys2Proof.Machine
end

