-- ==== Sys2Proof/Laws/Views.lean ====
section
/-! SUPPORT. Which updates leave the views of the state alone: a buffer byte, the flags, the argument check, the
bytes of ADDR, the frame head and the length byte. -/

namespace Sys2Proof.Machine

/-! ### `bufByte` -/

@[simp] theorem State.setAddr_bufByte (s : State) (v : Half) (i : Nat) : (s.setAddr v).bufByte i = s.bufByte i :=
    rfl
@[simp] theorem State.setLen_bufByte (s : State) (v : Byte) (i : Nat) : (s.setLen v).bufByte i = s.bufByte i :=
    rfl
@[simp] theorem State.setMask_bufByte (s : State) (v : Half) (i : Nat) : (s.setMask v).bufByte i = s.bufByte i :=
    rfl
@[simp] theorem State.setOut_bufByte (s : State) (v : Half) (i : Nat) : (s.setOut v).bufByte i = s.bufByte i :=
    rfl
@[simp] theorem State.setAcc_bufByte (s : State) (v : Byte) (i : Nat) : (s.setAcc v).bufByte i = s.bufByte i :=
    rfl
@[simp] theorem State.setCsum_bufByte (s : State) (v : Byte) (i : Nat) : (s.setCsum v).bufByte i = s.bufByte i :=
    rfl
@[simp] theorem State.setStat_bufByte (s : State) (v : Half) (i : Nat) : (s.setStat v).bufByte i = s.bufByte i :=
    rfl
@[simp] theorem State.setSecmode_bufByte (s : State) (v : SecMode) (i : Nat) : (s.setSecmode v).bufByte i = s.bufByte i :=
    rfl
@[simp] theorem State.setRes_bufByte (s : State) (v : Byte) (i : Nat) : (s.setRes v).bufByte i = s.bufByte i :=
    rfl
@[simp] theorem State.setRerr_bufByte (s : State) (v : Byte) (i : Nat) : (s.setRerr v).bufByte i = s.bufByte i :=
    rfl
@[simp] theorem State.setRlen_bufByte (s : State) (v : Byte) (i : Nat) : (s.setRlen v).bufByte i = s.bufByte i :=
    rfl
@[simp] theorem State.setFlags_bufByte (s : State) (v : BitVec 2) (i : Nat) : (s.setFlags v).bufByte i = s.bufByte i :=
    rfl
@[simp] theorem State.setPh_bufByte (s : State) (v : Phase) (i : Nat) : (s.setPh v).bufByte i = s.bufByte i :=
    rfl
@[simp] theorem State.setOrig_bufByte (s : State) (v : SecMode) (i : Nat) : (s.setOrig v).bufByte i = s.bufByte i :=
    rfl
@[simp] theorem State.setChg_bufByte (s : State) (v : Bool) (i : Nat) : (s.setChg v).bufByte i = s.bufByte i :=
    rfl
@[simp] theorem State.setE_bufByte (s : State) (v : Byte) (i : Nat) : (s.setE v).bufByte i = s.bufByte i :=
    rfl
@[simp] theorem State.setHistory_bufByte (s : State) (v : List Event) (i : Nat) : (s.setHistory v).bufByte i = s.bufByte i :=
    rfl
@[simp] theorem State.setHostWords_bufByte (s : State) (v : List Word) (i : Nat) : (s.setHostWords v).bufByte i = s.bufByte i :=
    rfl
@[simp] theorem State.setTwIn_bufByte (s : State) (v : List TwAnswer) (i : Nat) : (s.setTwIn v).bufByte i = s.bufByte i :=
    rfl
@[simp] theorem State.setStatusIn_bufByte (s : State) (v : List (TrAnswer 2)) (i : Nat) : (s.setStatusIn v).bufByte i = s.bufByte i :=
    rfl
@[simp] theorem State.setFrameIn_bufByte (s : State) (v : List (TrAnswer 36)) (i : Nat) : (s.setFrameIn v).bufByte i = s.bufByte i :=
    rfl
@[simp] theorem State.setSleepIn_bufByte (s : State) (v : Nat) (i : Nat) : (s.setSleepIn v).bufByte i = s.bufByte i :=
    rfl
@[simp] theorem State.setSecIn_bufByte (s : State) (v : List SecAnswer) (i : Nat) : (s.setSecIn v).bufByte i = s.bufByte i :=
    rfl
@[simp] theorem State.accept_bufByte (s : State) (i : Nat) : s.accept.bufByte i = s.bufByte i :=
    rfl
@[simp] theorem State.logEvent_bufByte (s : State) (ev : Event) (i : Nat) : (s.logEvent ev).bufByte i = s.bufByte i :=
    rfl
@[simp] theorem State.presentWord_bufByte (s : State) (w : Word) (i : Nat) : (s.presentWord w).bufByte i = s.bufByte i :=
    rfl
@[simp] theorem State.endCommand_bufByte (s : State) (k : ResultKind) (i : Nat) : (s.endCommand k).bufByte i = s.bufByte i :=
    rfl
@[simp] theorem State.succeed_bufByte (s : State) (i : Nat) : s.succeed.bufByte i = s.bufByte i :=
    rfl
@[simp] theorem State.raise_bufByte (s : State) (k : ResultKind) (i : Nat) : (s.raise k).bufByte i = s.bufByte i :=
    rfl
@[simp] theorem State.leaveBody_bufByte (s : State) (k : ResultKind) (i : Nat) : (s.leaveBody k).bufByte i = s.bufByte i :=
    rfl
@[simp] theorem State.endTransfer_bufByte (s : State) (c : Byte) (i : Nat) : (s.endTransfer c).bufByte i = s.bufByte i :=
    rfl
@[simp] theorem State.setM_bufByte (s : State) (v : Bool) (i : Nat) : (s.setM v).bufByte i = s.bufByte i :=
    rfl
@[simp] theorem State.setLenbad_bufByte (s : State) (v : Bool) (i : Nat) : (s.setLenbad v).bufByte i = s.bufByte i :=
    rfl
@[simp] theorem State.deliver_bufByte (s : State) (c : Byte) (i : Nat) : (s.deliver c).bufByte i = s.bufByte i :=
    rfl
@[simp] theorem State.clearResult_bufByte (s : State) (i : Nat) : s.clearResult.bufByte i = s.bufByte i :=
    rfl
@[simp] theorem State.beginTransfer_bufByte (s : State) (i : Nat) : s.beginTransfer.bufByte i = s.bufByte i :=
    by
  simp only [State.bufByte, State.beginTransfer_buf]

/-! ### `flagM` -/

@[simp] theorem State.setAddr_flagM (s : State) (v : Half) : (s.setAddr v).flagM = s.flagM := rfl
@[simp] theorem State.setLen_flagM (s : State) (v : Byte) : (s.setLen v).flagM = s.flagM := rfl
@[simp] theorem State.setMask_flagM (s : State) (v : Half) : (s.setMask v).flagM = s.flagM := rfl
@[simp] theorem State.setOut_flagM (s : State) (v : Half) : (s.setOut v).flagM = s.flagM := rfl
@[simp] theorem State.setAcc_flagM (s : State) (v : Byte) : (s.setAcc v).flagM = s.flagM := rfl
@[simp] theorem State.setCsum_flagM (s : State) (v : Byte) : (s.setCsum v).flagM = s.flagM := rfl
@[simp] theorem State.setStat_flagM (s : State) (v : Half) : (s.setStat v).flagM = s.flagM := rfl
@[simp] theorem State.setSecmode_flagM (s : State) (v : SecMode) : (s.setSecmode v).flagM = s.flagM :=
    rfl
@[simp] theorem State.setRes_flagM (s : State) (v : Byte) : (s.setRes v).flagM = s.flagM := rfl
@[simp] theorem State.setRerr_flagM (s : State) (v : Byte) : (s.setRerr v).flagM = s.flagM := rfl
@[simp] theorem State.setRlen_flagM (s : State) (v : Byte) : (s.setRlen v).flagM = s.flagM := rfl
@[simp] theorem State.setBuf_flagM (s : State) (v : List Host.Cell) : (s.setBuf v).flagM = s.flagM :=
    rfl
@[simp] theorem State.setPh_flagM (s : State) (v : Phase) : (s.setPh v).flagM = s.flagM := rfl
@[simp] theorem State.setOrig_flagM (s : State) (v : SecMode) : (s.setOrig v).flagM = s.flagM :=
    rfl
@[simp] theorem State.setChg_flagM (s : State) (v : Bool) : (s.setChg v).flagM = s.flagM := rfl
@[simp] theorem State.setE_flagM (s : State) (v : Byte) : (s.setE v).flagM = s.flagM := rfl
@[simp] theorem State.setHistory_flagM (s : State) (v : List Event) : (s.setHistory v).flagM = s.flagM :=
    rfl
@[simp] theorem State.setHostWords_flagM (s : State) (v : List Word) : (s.setHostWords v).flagM = s.flagM :=
    rfl
@[simp] theorem State.setTwIn_flagM (s : State) (v : List TwAnswer) : (s.setTwIn v).flagM = s.flagM :=
    rfl
@[simp] theorem State.setStatusIn_flagM (s : State) (v : List (TrAnswer 2)) : (s.setStatusIn v).flagM = s.flagM :=
    rfl
@[simp] theorem State.setFrameIn_flagM (s : State) (v : List (TrAnswer 36)) : (s.setFrameIn v).flagM = s.flagM :=
    rfl
@[simp] theorem State.setSleepIn_flagM (s : State) (v : Nat) : (s.setSleepIn v).flagM = s.flagM :=
    rfl
@[simp] theorem State.setSecIn_flagM (s : State) (v : List SecAnswer) : (s.setSecIn v).flagM = s.flagM :=
    rfl
@[simp] theorem State.accept_flagM (s : State) : s.accept.flagM = s.flagM := rfl
@[simp] theorem State.logEvent_flagM (s : State) (ev : Event) : (s.logEvent ev).flagM = s.flagM :=
    rfl
@[simp] theorem State.presentWord_flagM (s : State) (w : Word) : (s.presentWord w).flagM = s.flagM :=
    rfl
@[simp] theorem State.endCommand_flagM (s : State) (k : ResultKind) : (s.endCommand k).flagM = s.flagM :=
    rfl
@[simp] theorem State.succeed_flagM (s : State) : s.succeed.flagM = s.flagM := rfl
@[simp] theorem State.raise_flagM (s : State) (k : ResultKind) : (s.raise k).flagM = s.flagM := rfl
@[simp] theorem State.leaveBody_flagM (s : State) (k : ResultKind) : (s.leaveBody k).flagM = s.flagM :=
    rfl
@[simp] theorem State.endTransfer_flagM (s : State) (c : Byte) : (s.endTransfer c).flagM = s.flagM :=
    rfl
@[simp] theorem State.setBufByte_flagM (s : State) (i : Nat) (v : Byte) : (s.setBufByte i v).flagM = s.flagM :=
    rfl
@[simp] theorem State.loadBuf_flagM (s : State) (data : Bytes 36) : (s.loadBuf data).flagM = s.flagM :=
    rfl
@[simp] theorem State.deliver_flagM (s : State) (c : Byte) : (s.deliver c).flagM = s.flagM := rfl
@[simp] theorem State.stampAddress_flagM (s : State) : s.stampAddress.flagM = s.flagM := rfl
@[simp] theorem State.stampTrailer_flagM (s : State) : s.stampTrailer.flagM = s.flagM :=
    by
  simp only [State.flagM, State.stampTrailer_flags]
@[simp] theorem State.beginTransfer_flagM (s : State) : s.beginTransfer.flagM = s.flagM :=
    by
  simp only [State.flagM, State.beginTransfer_flags]

/-! ### `flagLenbad` -/

@[simp] theorem State.setAddr_flagLenbad (s : State) (v : Half) : (s.setAddr v).flagLenbad = s.flagLenbad :=
    rfl
@[simp] theorem State.setLen_flagLenbad (s : State) (v : Byte) : (s.setLen v).flagLenbad = s.flagLenbad :=
    rfl
@[simp] theorem State.setMask_flagLenbad (s : State) (v : Half) : (s.setMask v).flagLenbad = s.flagLenbad :=
    rfl
@[simp] theorem State.setOut_flagLenbad (s : State) (v : Half) : (s.setOut v).flagLenbad = s.flagLenbad :=
    rfl
@[simp] theorem State.setAcc_flagLenbad (s : State) (v : Byte) : (s.setAcc v).flagLenbad = s.flagLenbad :=
    rfl
@[simp] theorem State.setCsum_flagLenbad (s : State) (v : Byte) : (s.setCsum v).flagLenbad = s.flagLenbad :=
    rfl
@[simp] theorem State.setStat_flagLenbad (s : State) (v : Half) : (s.setStat v).flagLenbad = s.flagLenbad :=
    rfl
@[simp] theorem State.setSecmode_flagLenbad (s : State) (v : SecMode) : (s.setSecmode v).flagLenbad = s.flagLenbad :=
    rfl
@[simp] theorem State.setRes_flagLenbad (s : State) (v : Byte) : (s.setRes v).flagLenbad = s.flagLenbad :=
    rfl
@[simp] theorem State.setRerr_flagLenbad (s : State) (v : Byte) : (s.setRerr v).flagLenbad = s.flagLenbad :=
    rfl
@[simp] theorem State.setRlen_flagLenbad (s : State) (v : Byte) : (s.setRlen v).flagLenbad = s.flagLenbad :=
    rfl
@[simp] theorem State.setBuf_flagLenbad (s : State) (v : List Host.Cell) : (s.setBuf v).flagLenbad = s.flagLenbad :=
    rfl
@[simp] theorem State.setPh_flagLenbad (s : State) (v : Phase) : (s.setPh v).flagLenbad = s.flagLenbad :=
    rfl
@[simp] theorem State.setOrig_flagLenbad (s : State) (v : SecMode) : (s.setOrig v).flagLenbad = s.flagLenbad :=
    rfl
@[simp] theorem State.setChg_flagLenbad (s : State) (v : Bool) : (s.setChg v).flagLenbad = s.flagLenbad :=
    rfl
@[simp] theorem State.setE_flagLenbad (s : State) (v : Byte) : (s.setE v).flagLenbad = s.flagLenbad :=
    rfl
@[simp] theorem State.setHistory_flagLenbad (s : State) (v : List Event) : (s.setHistory v).flagLenbad = s.flagLenbad :=
    rfl
@[simp] theorem State.setHostWords_flagLenbad (s : State) (v : List Word) : (s.setHostWords v).flagLenbad = s.flagLenbad :=
    rfl
@[simp] theorem State.setTwIn_flagLenbad (s : State) (v : List TwAnswer) : (s.setTwIn v).flagLenbad = s.flagLenbad :=
    rfl
@[simp] theorem State.setStatusIn_flagLenbad (s : State) (v : List (TrAnswer 2)) : (s.setStatusIn v).flagLenbad = s.flagLenbad :=
    rfl
@[simp] theorem State.setFrameIn_flagLenbad (s : State) (v : List (TrAnswer 36)) : (s.setFrameIn v).flagLenbad = s.flagLenbad :=
    rfl
@[simp] theorem State.setSleepIn_flagLenbad (s : State) (v : Nat) : (s.setSleepIn v).flagLenbad = s.flagLenbad :=
    rfl
@[simp] theorem State.setSecIn_flagLenbad (s : State) (v : List SecAnswer) : (s.setSecIn v).flagLenbad = s.flagLenbad :=
    rfl
@[simp] theorem State.accept_flagLenbad (s : State) : s.accept.flagLenbad = s.flagLenbad := rfl
@[simp] theorem State.logEvent_flagLenbad (s : State) (ev : Event) : (s.logEvent ev).flagLenbad = s.flagLenbad :=
    rfl
@[simp] theorem State.presentWord_flagLenbad (s : State) (w : Word) : (s.presentWord w).flagLenbad = s.flagLenbad :=
    rfl
@[simp] theorem State.endCommand_flagLenbad (s : State) (k : ResultKind) : (s.endCommand k).flagLenbad = s.flagLenbad :=
    rfl
@[simp] theorem State.succeed_flagLenbad (s : State) : s.succeed.flagLenbad = s.flagLenbad := rfl
@[simp] theorem State.raise_flagLenbad (s : State) (k : ResultKind) : (s.raise k).flagLenbad = s.flagLenbad :=
    rfl
@[simp] theorem State.leaveBody_flagLenbad (s : State) (k : ResultKind) : (s.leaveBody k).flagLenbad = s.flagLenbad :=
    rfl
@[simp] theorem State.endTransfer_flagLenbad (s : State) (c : Byte) : (s.endTransfer c).flagLenbad = s.flagLenbad :=
    rfl
@[simp] theorem State.setBufByte_flagLenbad (s : State) (i : Nat) (v : Byte) : (s.setBufByte i v).flagLenbad = s.flagLenbad :=
    rfl
@[simp] theorem State.loadBuf_flagLenbad (s : State) (data : Bytes 36) : (s.loadBuf data).flagLenbad = s.flagLenbad :=
    rfl
@[simp] theorem State.deliver_flagLenbad (s : State) (c : Byte) : (s.deliver c).flagLenbad = s.flagLenbad :=
    rfl
@[simp] theorem State.stampAddress_flagLenbad (s : State) : s.stampAddress.flagLenbad = s.flagLenbad :=
    rfl
@[simp] theorem State.stampTrailer_flagLenbad (s : State) : s.stampTrailer.flagLenbad = s.flagLenbad :=
    by
  simp only [State.flagLenbad, State.stampTrailer_flags]
@[simp] theorem State.beginTransfer_flagLenbad (s : State) : s.beginTransfer.flagLenbad = s.flagLenbad :=
    by
  simp only [State.flagLenbad, State.beginTransfer_flags]

/-! ### `argsOk` -/

@[simp] theorem State.setMask_argsOk (s : State) (v : Half) : (s.setMask v).argsOk = s.argsOk :=
    rfl
@[simp] theorem State.setOut_argsOk (s : State) (v : Half) : (s.setOut v).argsOk = s.argsOk := rfl
@[simp] theorem State.setAcc_argsOk (s : State) (v : Byte) : (s.setAcc v).argsOk = s.argsOk := rfl
@[simp] theorem State.setCsum_argsOk (s : State) (v : Byte) : (s.setCsum v).argsOk = s.argsOk :=
    rfl
@[simp] theorem State.setStat_argsOk (s : State) (v : Half) : (s.setStat v).argsOk = s.argsOk :=
    rfl
@[simp] theorem State.setSecmode_argsOk (s : State) (v : SecMode) : (s.setSecmode v).argsOk = s.argsOk :=
    rfl
@[simp] theorem State.setRes_argsOk (s : State) (v : Byte) : (s.setRes v).argsOk = s.argsOk := rfl
@[simp] theorem State.setRerr_argsOk (s : State) (v : Byte) : (s.setRerr v).argsOk = s.argsOk :=
    rfl
@[simp] theorem State.setRlen_argsOk (s : State) (v : Byte) : (s.setRlen v).argsOk = s.argsOk :=
    rfl
@[simp] theorem State.setFlags_argsOk (s : State) (v : BitVec 2) : (s.setFlags v).argsOk = s.argsOk :=
    rfl
@[simp] theorem State.setBuf_argsOk (s : State) (v : List Host.Cell) : (s.setBuf v).argsOk = s.argsOk :=
    rfl
@[simp] theorem State.setPh_argsOk (s : State) (v : Phase) : (s.setPh v).argsOk = s.argsOk := rfl
@[simp] theorem State.setOrig_argsOk (s : State) (v : SecMode) : (s.setOrig v).argsOk = s.argsOk :=
    rfl
@[simp] theorem State.setChg_argsOk (s : State) (v : Bool) : (s.setChg v).argsOk = s.argsOk := rfl
@[simp] theorem State.setE_argsOk (s : State) (v : Byte) : (s.setE v).argsOk = s.argsOk := rfl
@[simp] theorem State.setHistory_argsOk (s : State) (v : List Event) : (s.setHistory v).argsOk = s.argsOk :=
    rfl
@[simp] theorem State.setHostWords_argsOk (s : State) (v : List Word) : (s.setHostWords v).argsOk = s.argsOk :=
    rfl
@[simp] theorem State.setTwIn_argsOk (s : State) (v : List TwAnswer) : (s.setTwIn v).argsOk = s.argsOk :=
    rfl
@[simp] theorem State.setStatusIn_argsOk (s : State) (v : List (TrAnswer 2)) : (s.setStatusIn v).argsOk = s.argsOk :=
    rfl
@[simp] theorem State.setFrameIn_argsOk (s : State) (v : List (TrAnswer 36)) : (s.setFrameIn v).argsOk = s.argsOk :=
    rfl
@[simp] theorem State.setSleepIn_argsOk (s : State) (v : Nat) : (s.setSleepIn v).argsOk = s.argsOk :=
    rfl
@[simp] theorem State.setSecIn_argsOk (s : State) (v : List SecAnswer) : (s.setSecIn v).argsOk = s.argsOk :=
    rfl
@[simp] theorem State.accept_argsOk (s : State) : s.accept.argsOk = s.argsOk := rfl
@[simp] theorem State.logEvent_argsOk (s : State) (ev : Event) : (s.logEvent ev).argsOk = s.argsOk :=
    rfl
@[simp] theorem State.presentWord_argsOk (s : State) (w : Word) : (s.presentWord w).argsOk = s.argsOk :=
    rfl
@[simp] theorem State.endCommand_argsOk (s : State) (k : ResultKind) : (s.endCommand k).argsOk = s.argsOk :=
    rfl
@[simp] theorem State.succeed_argsOk (s : State) : s.succeed.argsOk = s.argsOk := rfl
@[simp] theorem State.raise_argsOk (s : State) (k : ResultKind) : (s.raise k).argsOk = s.argsOk :=
    rfl
@[simp] theorem State.leaveBody_argsOk (s : State) (k : ResultKind) : (s.leaveBody k).argsOk = s.argsOk :=
    rfl
@[simp] theorem State.endTransfer_argsOk (s : State) (c : Byte) : (s.endTransfer c).argsOk = s.argsOk :=
    rfl
@[simp] theorem State.setBufByte_argsOk (s : State) (i : Nat) (v : Byte) : (s.setBufByte i v).argsOk = s.argsOk :=
    rfl
@[simp] theorem State.loadBuf_argsOk (s : State) (data : Bytes 36) : (s.loadBuf data).argsOk = s.argsOk :=
    rfl
@[simp] theorem State.setM_argsOk (s : State) (v : Bool) : (s.setM v).argsOk = s.argsOk := rfl
@[simp] theorem State.setLenbad_argsOk (s : State) (v : Bool) : (s.setLenbad v).argsOk = s.argsOk :=
    rfl
@[simp] theorem State.deliver_argsOk (s : State) (c : Byte) : (s.deliver c).argsOk = s.argsOk :=
    rfl
@[simp] theorem State.stampAddress_argsOk (s : State) : s.stampAddress.argsOk = s.argsOk := rfl
@[simp] theorem State.stampTrailer_argsOk (s : State) : s.stampTrailer.argsOk = s.argsOk :=
    by
  simp only [State.argsOk, State.stampTrailer_addr, State.stampTrailer_len]
@[simp] theorem State.clearResult_argsOk (s : State) : s.clearResult.argsOk = s.argsOk := rfl
@[simp] theorem State.beginTransfer_argsOk (s : State) : s.beginTransfer.argsOk = s.argsOk :=
    by
  simp only [State.argsOk, State.beginTransfer_addr, State.beginTransfer_len]

/-! ### `addrLo` -/

@[simp] theorem State.setLen_addrLo (s : State) (v : Byte) : (s.setLen v).addrLo = s.addrLo := rfl
@[simp] theorem State.setMask_addrLo (s : State) (v : Half) : (s.setMask v).addrLo = s.addrLo :=
    rfl
@[simp] theorem State.setOut_addrLo (s : State) (v : Half) : (s.setOut v).addrLo = s.addrLo := rfl
@[simp] theorem State.setAcc_addrLo (s : State) (v : Byte) : (s.setAcc v).addrLo = s.addrLo := rfl
@[simp] theorem State.setCsum_addrLo (s : State) (v : Byte) : (s.setCsum v).addrLo = s.addrLo :=
    rfl
@[simp] theorem State.setStat_addrLo (s : State) (v : Half) : (s.setStat v).addrLo = s.addrLo :=
    rfl
@[simp] theorem State.setSecmode_addrLo (s : State) (v : SecMode) : (s.setSecmode v).addrLo = s.addrLo :=
    rfl
@[simp] theorem State.setRes_addrLo (s : State) (v : Byte) : (s.setRes v).addrLo = s.addrLo := rfl
@[simp] theorem State.setRerr_addrLo (s : State) (v : Byte) : (s.setRerr v).addrLo = s.addrLo :=
    rfl
@[simp] theorem State.setRlen_addrLo (s : State) (v : Byte) : (s.setRlen v).addrLo = s.addrLo :=
    rfl
@[simp] theorem State.setFlags_addrLo (s : State) (v : BitVec 2) : (s.setFlags v).addrLo = s.addrLo :=
    rfl
@[simp] theorem State.setBuf_addrLo (s : State) (v : List Host.Cell) : (s.setBuf v).addrLo = s.addrLo :=
    rfl
@[simp] theorem State.setPh_addrLo (s : State) (v : Phase) : (s.setPh v).addrLo = s.addrLo := rfl
@[simp] theorem State.setOrig_addrLo (s : State) (v : SecMode) : (s.setOrig v).addrLo = s.addrLo :=
    rfl
@[simp] theorem State.setChg_addrLo (s : State) (v : Bool) : (s.setChg v).addrLo = s.addrLo := rfl
@[simp] theorem State.setE_addrLo (s : State) (v : Byte) : (s.setE v).addrLo = s.addrLo := rfl
@[simp] theorem State.setHistory_addrLo (s : State) (v : List Event) : (s.setHistory v).addrLo = s.addrLo :=
    rfl
@[simp] theorem State.setHostWords_addrLo (s : State) (v : List Word) : (s.setHostWords v).addrLo = s.addrLo :=
    rfl
@[simp] theorem State.setTwIn_addrLo (s : State) (v : List TwAnswer) : (s.setTwIn v).addrLo = s.addrLo :=
    rfl
@[simp] theorem State.setStatusIn_addrLo (s : State) (v : List (TrAnswer 2)) : (s.setStatusIn v).addrLo = s.addrLo :=
    rfl
@[simp] theorem State.setFrameIn_addrLo (s : State) (v : List (TrAnswer 36)) : (s.setFrameIn v).addrLo = s.addrLo :=
    rfl
@[simp] theorem State.setSleepIn_addrLo (s : State) (v : Nat) : (s.setSleepIn v).addrLo = s.addrLo :=
    rfl
@[simp] theorem State.setSecIn_addrLo (s : State) (v : List SecAnswer) : (s.setSecIn v).addrLo = s.addrLo :=
    rfl
@[simp] theorem State.accept_addrLo (s : State) : s.accept.addrLo = s.addrLo := rfl
@[simp] theorem State.logEvent_addrLo (s : State) (ev : Event) : (s.logEvent ev).addrLo = s.addrLo :=
    rfl
@[simp] theorem State.presentWord_addrLo (s : State) (w : Word) : (s.presentWord w).addrLo = s.addrLo :=
    rfl
@[simp] theorem State.endCommand_addrLo (s : State) (k : ResultKind) : (s.endCommand k).addrLo = s.addrLo :=
    rfl
@[simp] theorem State.succeed_addrLo (s : State) : s.succeed.addrLo = s.addrLo := rfl
@[simp] theorem State.raise_addrLo (s : State) (k : ResultKind) : (s.raise k).addrLo = s.addrLo :=
    rfl
@[simp] theorem State.leaveBody_addrLo (s : State) (k : ResultKind) : (s.leaveBody k).addrLo = s.addrLo :=
    rfl
@[simp] theorem State.endTransfer_addrLo (s : State) (c : Byte) : (s.endTransfer c).addrLo = s.addrLo :=
    rfl
@[simp] theorem State.setBufByte_addrLo (s : State) (i : Nat) (v : Byte) : (s.setBufByte i v).addrLo = s.addrLo :=
    rfl
@[simp] theorem State.loadBuf_addrLo (s : State) (data : Bytes 36) : (s.loadBuf data).addrLo = s.addrLo :=
    rfl
@[simp] theorem State.setM_addrLo (s : State) (v : Bool) : (s.setM v).addrLo = s.addrLo := rfl
@[simp] theorem State.setLenbad_addrLo (s : State) (v : Bool) : (s.setLenbad v).addrLo = s.addrLo :=
    rfl
@[simp] theorem State.deliver_addrLo (s : State) (c : Byte) : (s.deliver c).addrLo = s.addrLo :=
    rfl
@[simp] theorem State.stampAddress_addrLo (s : State) : s.stampAddress.addrLo = s.addrLo := rfl
@[simp] theorem State.stampTrailer_addrLo (s : State) : s.stampTrailer.addrLo = s.addrLo :=
    by
  simp only [State.addrLo, State.stampTrailer_addr]
@[simp] theorem State.clearResult_addrLo (s : State) : s.clearResult.addrLo = s.addrLo := rfl
@[simp] theorem State.beginTransfer_addrLo (s : State) : s.beginTransfer.addrLo = s.addrLo :=
    by
  simp only [State.addrLo, State.beginTransfer_addr]

/-! ### `addrHi` -/

@[simp] theorem State.setLen_addrHi (s : State) (v : Byte) : (s.setLen v).addrHi = s.addrHi := rfl
@[simp] theorem State.setMask_addrHi (s : State) (v : Half) : (s.setMask v).addrHi = s.addrHi :=
    rfl
@[simp] theorem State.setOut_addrHi (s : State) (v : Half) : (s.setOut v).addrHi = s.addrHi := rfl
@[simp] theorem State.setAcc_addrHi (s : State) (v : Byte) : (s.setAcc v).addrHi = s.addrHi := rfl
@[simp] theorem State.setCsum_addrHi (s : State) (v : Byte) : (s.setCsum v).addrHi = s.addrHi :=
    rfl
@[simp] theorem State.setStat_addrHi (s : State) (v : Half) : (s.setStat v).addrHi = s.addrHi :=
    rfl
@[simp] theorem State.setSecmode_addrHi (s : State) (v : SecMode) : (s.setSecmode v).addrHi = s.addrHi :=
    rfl
@[simp] theorem State.setRes_addrHi (s : State) (v : Byte) : (s.setRes v).addrHi = s.addrHi := rfl
@[simp] theorem State.setRerr_addrHi (s : State) (v : Byte) : (s.setRerr v).addrHi = s.addrHi :=
    rfl
@[simp] theorem State.setRlen_addrHi (s : State) (v : Byte) : (s.setRlen v).addrHi = s.addrHi :=
    rfl
@[simp] theorem State.setFlags_addrHi (s : State) (v : BitVec 2) : (s.setFlags v).addrHi = s.addrHi :=
    rfl
@[simp] theorem State.setBuf_addrHi (s : State) (v : List Host.Cell) : (s.setBuf v).addrHi = s.addrHi :=
    rfl
@[simp] theorem State.setPh_addrHi (s : State) (v : Phase) : (s.setPh v).addrHi = s.addrHi := rfl
@[simp] theorem State.setOrig_addrHi (s : State) (v : SecMode) : (s.setOrig v).addrHi = s.addrHi :=
    rfl
@[simp] theorem State.setChg_addrHi (s : State) (v : Bool) : (s.setChg v).addrHi = s.addrHi := rfl
@[simp] theorem State.setE_addrHi (s : State) (v : Byte) : (s.setE v).addrHi = s.addrHi := rfl
@[simp] theorem State.setHistory_addrHi (s : State) (v : List Event) : (s.setHistory v).addrHi = s.addrHi :=
    rfl
@[simp] theorem State.setHostWords_addrHi (s : State) (v : List Word) : (s.setHostWords v).addrHi = s.addrHi :=
    rfl
@[simp] theorem State.setTwIn_addrHi (s : State) (v : List TwAnswer) : (s.setTwIn v).addrHi = s.addrHi :=
    rfl
@[simp] theorem State.setStatusIn_addrHi (s : State) (v : List (TrAnswer 2)) : (s.setStatusIn v).addrHi = s.addrHi :=
    rfl
@[simp] theorem State.setFrameIn_addrHi (s : State) (v : List (TrAnswer 36)) : (s.setFrameIn v).addrHi = s.addrHi :=
    rfl
@[simp] theorem State.setSleepIn_addrHi (s : State) (v : Nat) : (s.setSleepIn v).addrHi = s.addrHi :=
    rfl
@[simp] theorem State.setSecIn_addrHi (s : State) (v : List SecAnswer) : (s.setSecIn v).addrHi = s.addrHi :=
    rfl
@[simp] theorem State.accept_addrHi (s : State) : s.accept.addrHi = s.addrHi := rfl
@[simp] theorem State.logEvent_addrHi (s : State) (ev : Event) : (s.logEvent ev).addrHi = s.addrHi :=
    rfl
@[simp] theorem State.presentWord_addrHi (s : State) (w : Word) : (s.presentWord w).addrHi = s.addrHi :=
    rfl
@[simp] theorem State.endCommand_addrHi (s : State) (k : ResultKind) : (s.endCommand k).addrHi = s.addrHi :=
    rfl
@[simp] theorem State.succeed_addrHi (s : State) : s.succeed.addrHi = s.addrHi := rfl
@[simp] theorem State.raise_addrHi (s : State) (k : ResultKind) : (s.raise k).addrHi = s.addrHi :=
    rfl
@[simp] theorem State.leaveBody_addrHi (s : State) (k : ResultKind) : (s.leaveBody k).addrHi = s.addrHi :=
    rfl
@[simp] theorem State.endTransfer_addrHi (s : State) (c : Byte) : (s.endTransfer c).addrHi = s.addrHi :=
    rfl
@[simp] theorem State.setBufByte_addrHi (s : State) (i : Nat) (v : Byte) : (s.setBufByte i v).addrHi = s.addrHi :=
    rfl
@[simp] theorem State.loadBuf_addrHi (s : State) (data : Bytes 36) : (s.loadBuf data).addrHi = s.addrHi :=
    rfl
@[simp] theorem State.setM_addrHi (s : State) (v : Bool) : (s.setM v).addrHi = s.addrHi := rfl
@[simp] theorem State.setLenbad_addrHi (s : State) (v : Bool) : (s.setLenbad v).addrHi = s.addrHi :=
    rfl
@[simp] theorem State.deliver_addrHi (s : State) (c : Byte) : (s.deliver c).addrHi = s.addrHi :=
    rfl
@[simp] theorem State.stampAddress_addrHi (s : State) : s.stampAddress.addrHi = s.addrHi := rfl
@[simp] theorem State.stampTrailer_addrHi (s : State) : s.stampTrailer.addrHi = s.addrHi :=
    by
  simp only [State.addrHi, State.stampTrailer_addr]
@[simp] theorem State.clearResult_addrHi (s : State) : s.clearResult.addrHi = s.addrHi := rfl
@[simp] theorem State.beginTransfer_addrHi (s : State) : s.beginTransfer.addrHi = s.addrHi :=
    by
  simp only [State.addrHi, State.beginTransfer_addr]

/-! ### `frameHead` -/

@[simp] theorem State.setAddr_frameHead (s : State) (v : Half) : (s.setAddr v).frameHead = s.frameHead :=
    rfl
@[simp] theorem State.setMask_frameHead (s : State) (v : Half) : (s.setMask v).frameHead = s.frameHead :=
    rfl
@[simp] theorem State.setOut_frameHead (s : State) (v : Half) : (s.setOut v).frameHead = s.frameHead :=
    rfl
@[simp] theorem State.setAcc_frameHead (s : State) (v : Byte) : (s.setAcc v).frameHead = s.frameHead :=
    rfl
@[simp] theorem State.setCsum_frameHead (s : State) (v : Byte) : (s.setCsum v).frameHead = s.frameHead :=
    rfl
@[simp] theorem State.setStat_frameHead (s : State) (v : Half) : (s.setStat v).frameHead = s.frameHead :=
    rfl
@[simp] theorem State.setSecmode_frameHead (s : State) (v : SecMode) : (s.setSecmode v).frameHead = s.frameHead :=
    rfl
@[simp] theorem State.setRes_frameHead (s : State) (v : Byte) : (s.setRes v).frameHead = s.frameHead :=
    rfl
@[simp] theorem State.setRerr_frameHead (s : State) (v : Byte) : (s.setRerr v).frameHead = s.frameHead :=
    rfl
@[simp] theorem State.setRlen_frameHead (s : State) (v : Byte) : (s.setRlen v).frameHead = s.frameHead :=
    rfl
@[simp] theorem State.setFlags_frameHead (s : State) (v : BitVec 2) : (s.setFlags v).frameHead = s.frameHead :=
    rfl
@[simp] theorem State.setPh_frameHead (s : State) (v : Phase) : (s.setPh v).frameHead = s.frameHead :=
    rfl
@[simp] theorem State.setOrig_frameHead (s : State) (v : SecMode) : (s.setOrig v).frameHead = s.frameHead :=
    rfl
@[simp] theorem State.setChg_frameHead (s : State) (v : Bool) : (s.setChg v).frameHead = s.frameHead :=
    rfl
@[simp] theorem State.setE_frameHead (s : State) (v : Byte) : (s.setE v).frameHead = s.frameHead :=
    rfl
@[simp] theorem State.setHistory_frameHead (s : State) (v : List Event) : (s.setHistory v).frameHead = s.frameHead :=
    rfl
@[simp] theorem State.setHostWords_frameHead (s : State) (v : List Word) : (s.setHostWords v).frameHead = s.frameHead :=
    rfl
@[simp] theorem State.setTwIn_frameHead (s : State) (v : List TwAnswer) : (s.setTwIn v).frameHead = s.frameHead :=
    rfl
@[simp] theorem State.setStatusIn_frameHead (s : State) (v : List (TrAnswer 2)) : (s.setStatusIn v).frameHead = s.frameHead :=
    rfl
@[simp] theorem State.setFrameIn_frameHead (s : State) (v : List (TrAnswer 36)) : (s.setFrameIn v).frameHead = s.frameHead :=
    rfl
@[simp] theorem State.setSleepIn_frameHead (s : State) (v : Nat) : (s.setSleepIn v).frameHead = s.frameHead :=
    rfl
@[simp] theorem State.setSecIn_frameHead (s : State) (v : List SecAnswer) : (s.setSecIn v).frameHead = s.frameHead :=
    rfl
@[simp] theorem State.accept_frameHead (s : State) : s.accept.frameHead = s.frameHead := rfl
@[simp] theorem State.logEvent_frameHead (s : State) (ev : Event) : (s.logEvent ev).frameHead = s.frameHead :=
    rfl
@[simp] theorem State.presentWord_frameHead (s : State) (w : Word) : (s.presentWord w).frameHead = s.frameHead :=
    rfl
@[simp] theorem State.endCommand_frameHead (s : State) (k : ResultKind) : (s.endCommand k).frameHead = s.frameHead :=
    rfl
@[simp] theorem State.succeed_frameHead (s : State) : s.succeed.frameHead = s.frameHead := rfl
@[simp] theorem State.raise_frameHead (s : State) (k : ResultKind) : (s.raise k).frameHead = s.frameHead :=
    rfl
@[simp] theorem State.leaveBody_frameHead (s : State) (k : ResultKind) : (s.leaveBody k).frameHead = s.frameHead :=
    rfl
@[simp] theorem State.endTransfer_frameHead (s : State) (c : Byte) : (s.endTransfer c).frameHead = s.frameHead :=
    rfl
@[simp] theorem State.setM_frameHead (s : State) (v : Bool) : (s.setM v).frameHead = s.frameHead :=
    rfl
@[simp] theorem State.setLenbad_frameHead (s : State) (v : Bool) : (s.setLenbad v).frameHead = s.frameHead :=
    rfl
@[simp] theorem State.deliver_frameHead (s : State) (c : Byte) : (s.deliver c).frameHead = s.frameHead :=
    rfl
@[simp] theorem State.clearResult_frameHead (s : State) : s.clearResult.frameHead = s.frameHead :=
    rfl

/-! ### `lengthByte` -/

@[simp] theorem State.setAddr_lengthByte (s : State) (v : Half) : (s.setAddr v).lengthByte = s.lengthByte :=
    rfl
@[simp] theorem State.setMask_lengthByte (s : State) (v : Half) : (s.setMask v).lengthByte = s.lengthByte :=
    rfl
@[simp] theorem State.setOut_lengthByte (s : State) (v : Half) : (s.setOut v).lengthByte = s.lengthByte :=
    rfl
@[simp] theorem State.setAcc_lengthByte (s : State) (v : Byte) : (s.setAcc v).lengthByte = s.lengthByte :=
    rfl
@[simp] theorem State.setCsum_lengthByte (s : State) (v : Byte) : (s.setCsum v).lengthByte = s.lengthByte :=
    rfl
@[simp] theorem State.setStat_lengthByte (s : State) (v : Half) : (s.setStat v).lengthByte = s.lengthByte :=
    rfl
@[simp] theorem State.setSecmode_lengthByte (s : State) (v : SecMode) : (s.setSecmode v).lengthByte = s.lengthByte :=
    rfl
@[simp] theorem State.setRes_lengthByte (s : State) (v : Byte) : (s.setRes v).lengthByte = s.lengthByte :=
    rfl
@[simp] theorem State.setRerr_lengthByte (s : State) (v : Byte) : (s.setRerr v).lengthByte = s.lengthByte :=
    rfl
@[simp] theorem State.setRlen_lengthByte (s : State) (v : Byte) : (s.setRlen v).lengthByte = s.lengthByte :=
    rfl
@[simp] theorem State.setFlags_lengthByte (s : State) (v : BitVec 2) : (s.setFlags v).lengthByte = s.lengthByte :=
    rfl
@[simp] theorem State.setBuf_lengthByte (s : State) (v : List Host.Cell) : (s.setBuf v).lengthByte = s.lengthByte :=
    rfl
@[simp] theorem State.setPh_lengthByte (s : State) (v : Phase) : (s.setPh v).lengthByte = s.lengthByte :=
    rfl
@[simp] theorem State.setOrig_lengthByte (s : State) (v : SecMode) : (s.setOrig v).lengthByte = s.lengthByte :=
    rfl
@[simp] theorem State.setChg_lengthByte (s : State) (v : Bool) : (s.setChg v).lengthByte = s.lengthByte :=
    rfl
@[simp] theorem State.setE_lengthByte (s : State) (v : Byte) : (s.setE v).lengthByte = s.lengthByte :=
    rfl
@[simp] theorem State.setHistory_lengthByte (s : State) (v : List Event) : (s.setHistory v).lengthByte = s.lengthByte :=
    rfl
@[simp] theorem State.setHostWords_lengthByte (s : State) (v : List Word) : (s.setHostWords v).lengthByte = s.lengthByte :=
    rfl
@[simp] theorem State.setTwIn_lengthByte (s : State) (v : List TwAnswer) : (s.setTwIn v).lengthByte = s.lengthByte :=
    rfl
@[simp] theorem State.setStatusIn_lengthByte (s : State) (v : List (TrAnswer 2)) : (s.setStatusIn v).lengthByte = s.lengthByte :=
    rfl
@[simp] theorem State.setFrameIn_lengthByte (s : State) (v : List (TrAnswer 36)) : (s.setFrameIn v).lengthByte = s.lengthByte :=
    rfl
@[simp] theorem State.setSleepIn_lengthByte (s : State) (v : Nat) : (s.setSleepIn v).lengthByte = s.lengthByte :=
    rfl
@[simp] theorem State.setSecIn_lengthByte (s : State) (v : List SecAnswer) : (s.setSecIn v).lengthByte = s.lengthByte :=
    rfl
@[simp] theorem State.accept_lengthByte (s : State) : s.accept.lengthByte = s.lengthByte := rfl
@[simp] theorem State.logEvent_lengthByte (s : State) (ev : Event) : (s.logEvent ev).lengthByte = s.lengthByte :=
    rfl
@[simp] theorem State.presentWord_lengthByte (s : State) (w : Word) : (s.presentWord w).lengthByte = s.lengthByte :=
    rfl
@[simp] theorem State.endCommand_lengthByte (s : State) (k : ResultKind) : (s.endCommand k).lengthByte = s.lengthByte :=
    rfl
@[simp] theorem State.succeed_lengthByte (s : State) : s.succeed.lengthByte = s.lengthByte := rfl
@[simp] theorem State.raise_lengthByte (s : State) (k : ResultKind) : (s.raise k).lengthByte = s.lengthByte :=
    rfl
@[simp] theorem State.leaveBody_lengthByte (s : State) (k : ResultKind) : (s.leaveBody k).lengthByte = s.lengthByte :=
    rfl
@[simp] theorem State.endTransfer_lengthByte (s : State) (c : Byte) : (s.endTransfer c).lengthByte = s.lengthByte :=
    rfl
@[simp] theorem State.setBufByte_lengthByte (s : State) (i : Nat) (v : Byte) : (s.setBufByte i v).lengthByte = s.lengthByte :=
    rfl
@[simp] theorem State.loadBuf_lengthByte (s : State) (data : Bytes 36) : (s.loadBuf data).lengthByte = s.lengthByte :=
    rfl
@[simp] theorem State.setM_lengthByte (s : State) (v : Bool) : (s.setM v).lengthByte = s.lengthByte :=
    rfl
@[simp] theorem State.setLenbad_lengthByte (s : State) (v : Bool) : (s.setLenbad v).lengthByte = s.lengthByte :=
    rfl
@[simp] theorem State.deliver_lengthByte (s : State) (c : Byte) : (s.deliver c).lengthByte = s.lengthByte :=
    rfl
@[simp] theorem State.stampAddress_lengthByte (s : State) : s.stampAddress.lengthByte = s.lengthByte :=
    rfl
@[simp] theorem State.stampTrailer_lengthByte (s : State) : s.stampTrailer.lengthByte = s.lengthByte :=
    by
  simp only [State.lengthByte, State.stampTrailer_len]
@[simp] theorem State.clearResult_lengthByte (s : State) : s.clearResult.lengthByte = s.lengthByte :=
    rfl
@[simp] theorem State.beginTransfer_lengthByte (s : State) : s.beginTransfer.lengthByte = s.lengthByte :=
    by
  simp only [State.lengthByte, State.beginTransfer_len]

end Sys2Proof.Machine
end

