-- ==== Sys2Proof/Laws/Transfer.lean ====
section
/-! SUPPORT. Everything each shared piece of a transfer can do: the entry (R141), the validation (R134) and
every phase (R142 to R155), once each, as a case analysis that later proofs cite. -/

namespace Sys2Proof.Machine

/-- VAL ends in one of four ways (R134). -/
theorem State.validate_cases (s : State) :
    ((s.bufByte 0 ≠ s.addrLo ∨ s.bufByte 1 ≠ s.addrHi) ∧ s.validate = (.addressMismatch, s)) ∨
    (((s.bufByte 0 = s.addrLo ∧ s.bufByte 1 = s.addrHi) ∧
      ((s.bufByte 35).toNat < 5 ∨ 36 < (s.bufByte 35).toNat)) ∧
        s.validate = (.checksumMismatch, s.setLenbad true)) ∨
    (((s.bufByte 0 = s.addrLo ∧ s.bufByte 1 = s.addrHi) ∧
      (5 ≤ (s.bufByte 35).toNat ∧ (s.bufByte 35).toNat ≤ 36) ∧
      checksum (s.bufBytes ((s.bufByte 35).toNat - 2)) ≠ s.bufByte 34) ∧
        s.validate =
          (.checksumMismatch, s.setCsum (checksum (s.bufBytes ((s.bufByte 35).toNat - 2))))) ∨
    (((s.bufByte 0 = s.addrLo ∧ s.bufByte 1 = s.addrHi) ∧
      (5 ≤ (s.bufByte 35).toNat ∧ (s.bufByte 35).toNat ≤ 36) ∧
      checksum (s.bufBytes ((s.bufByte 35).toNat - 2)) = s.bufByte 34) ∧
        s.validate = (.ok, (s.setCsum (s.bufByte 34)).setRlen
          (BitVec.ofNat 8 (min ((s.bufByte 35).toNat - 4) s.len.toNat)))) := by
  unfold State.validate
  by_cases h1 : s.bufByte 0 ≠ s.addrLo ∨ s.bufByte 1 ≠ s.addrHi
  · left
    exact ⟨h1, if_pos h1⟩
  · right
    rw [if_neg h1]
    have ha : s.bufByte 0 = s.addrLo ∧ s.bufByte 1 = s.addrHi := by
      simpa only [not_or, ne_eq, not_not] using h1
    by_cases h2 : (s.bufByte 35).toNat < 5 ∨ 36 < (s.bufByte 35).toNat
    · left
      exact ⟨⟨ha, h2⟩, if_pos h2⟩
    · right
      rw [if_neg h2]
      have hl : 5 ≤ (s.bufByte 35).toNat ∧ (s.bufByte 35).toNat ≤ 36 := by omega
      by_cases h3 : checksum (s.bufBytes ((s.bufByte 35).toNat - 2)) = s.bufByte 34
      · right
        refine ⟨⟨ha, hl, h3⟩, ?_⟩
        simp only [h3, ne_eq, not_true_eq_false, if_false, lenOverhead]
      · left
        refine ⟨⟨ha, hl, h3⟩, ?_⟩
        simp only [ne_eq, h3, not_false_eq_true, if_true]

/-- The entry of a transfer ends in one of three ways (R141). -/
theorem State.enterTransfer_cases (s : State) (sec body : Phase) :
    (s.argsOk = false ∧ s.enterTransfer sec body = s.raise .invalidArgument) ∨
    (s.argsOk = true ∧ s.secmode = .unknown ∧
      s.enterTransfer sec body = s.raise .securityUnknown) ∨
    (s.argsOk = true ∧ s.secmode ≠ .unknown ∧ s.enterTransfer sec body =
      s.accept.beginTransfer.setPh (if s.secmode = .sealed then sec else body)) := by
  unfold State.enterTransfer
  cases h : s.argsOk <;> by_cases h2 : s.secmode = .unknown <;> simp [h2]

/-- The implicit unseal waits, succeeds or ends the command (R142). -/
theorem phaseSec_cases (body : Phase) (s : State) :
    (s.secIn = [] ∧ phaseSec body s = s) ∨
    (∃ rest, s.secIn = .ok :: rest ∧ phaseSec body s =
      ((((s.setSecIn rest).logEvent (.secreq .unsealed .ok)).setSecmode .unsealed).setChg true).setPh
        body) ∨
    (∃ c rest, s.secIn = .err c :: rest ∧ phaseSec body s =
      ((s.setSecIn rest).logEvent (.secreq .unsealed (.err c))).endTransfer c.code) := by
  unfold phaseSec State.askSec
  rcases s.secIn with _ | ⟨_ | c, rest⟩ <;> simp

theorem phaseWFrame_cases (s : State) :
    (s.twIn = [] ∧ phaseWFrame s = s) ∨
    (∃ rest, s.twIn = .ok :: rest ∧ phaseWFrame s =
      ((s.stampAddress.setTwIn rest).logEvent
        (.tw Config.regMac s.stampAddress.frameHead .ok)).setPh .wDly1) ∨
    (∃ rest, s.twIn = .ioError :: rest ∧ phaseWFrame s =
      ((s.stampAddress.setTwIn rest).logEvent
        (.tw Config.regMac s.stampAddress.frameHead .ioError)).leaveBody .ioError) := by
  unfold phaseWFrame State.askTw
  rw [State.stampAddress_twIn]
  rcases s.twIn with _ | ⟨_ | _, rest⟩ <;> simp

theorem phaseDelay_cases (after : Phase) (s : State) :
    (s.sleepIn = 0 ∧ phaseDelay after s = s) ∨
    (∃ n, s.sleepIn = n + 1 ∧ phaseDelay after s =
      ((s.setSleepIn n).logEvent (.sleep tSettle)).setPh after) := by
  unfold phaseDelay State.askSleep
  rcases s.sleepIn with _ | n <;> simp

theorem phaseWSum_cases (s : State) :
    (s.twIn = [] ∧ phaseWSum s = s) ∨
    (∃ rest, s.twIn = .ok :: rest ∧ phaseWSum s =
      ((s.stampTrailer.setTwIn rest).logEvent
        (.tw Config.regMacSum [checksum s.frameHead, s.lengthByte] .ok)).setPh .wDly2) ∨
    (∃ rest, s.twIn = .ioError :: rest ∧ phaseWSum s =
      ((s.stampTrailer.setTwIn rest).logEvent
        (.tw Config.regMacSum [checksum s.frameHead, s.lengthByte] .ioError)).leaveBody
          .ioError) := by
  unfold phaseWSum State.askTw
  rw [State.stampTrailer_twIn, State.stampTrailer_csum]
  rcases s.twIn with _ | ⟨_ | _, rest⟩ <;> simp

theorem phaseWStat_cases (s : State) :
    (s.statusIn = [] ∧ phaseWStat s = s) ∨
    (∃ data rest, s.statusIn = .ok data :: rest ∧ phaseWStat s =
      (((s.setStatusIn rest).logEvent (.tr Config.regControl [] 2 (.ok data))).setStat
        (statusWord data)).leaveBody
          (if (statusWord data).getLsbD 15 then .writeRejected else .ok)) ∨
    (∃ rest, s.statusIn = .ioError :: rest ∧ phaseWStat s =
      ((s.setStatusIn rest).logEvent (.tr Config.regControl [] 2 .ioError)).leaveBody
        .ioError) := by
  unfold phaseWStat State.askStatus
  rcases s.statusIn with _ | ⟨data | _, rest⟩
  · simp
  · right; left
    refine ⟨data, rest, rfl, ?_⟩
    cases hb : (statusWord data).getLsbD 15 <;>
      simp only [State.statXmfail, State.setStat_stat, hb, if_true, Bool.false_eq_true, if_false]
  · simp

theorem phaseRAddr_cases (s : State) :
    (s.twIn = [] ∧ phaseRAddr s = s) ∨
    (∃ rest, s.twIn = .ok :: rest ∧ phaseRAddr s =
      ((s.setTwIn rest).logEvent (.tw Config.regMac [s.addrLo, s.addrHi] .ok)).setPh .rFrame) ∨
    (∃ rest, s.twIn = .ioError :: rest ∧ phaseRAddr s =
      ((s.setTwIn rest).logEvent (.tw Config.regMac [s.addrLo, s.addrHi] .ioError)).leaveBody
        .ioError) := by
  unfold phaseRAddr State.askTw
  rcases s.twIn with _ | ⟨_ | _, rest⟩ <;> simp

theorem phaseRFrame_cases (s : State) :
    (s.frameIn = [] ∧ phaseRFrame s = s) ∨
    (∃ data rest, s.frameIn = .ok data :: rest ∧ phaseRFrame s =
      (((s.setFrameIn rest).logEvent (.tr Config.regMac [] 36 (.ok data))).loadBuf data).setPh
        .rVal) ∨
    (∃ rest, s.frameIn = .ioError :: rest ∧ phaseRFrame s =
      ((s.setFrameIn rest).logEvent (.tr Config.regMac [] 36 .ioError)).leaveBody .ioError) := by
  unfold phaseRFrame State.askFrame
  rcases s.frameIn with _ | ⟨data | _, rest⟩ <;> simp

/-- The restoration is not due, waits, succeeds or fails (R155). -/
theorem phaseXRest_cases (s : State) :
    (s.chg = false ∧ phaseXRest s = s.finishTransfer) ∨
    (s.chg = true ∧ s.secIn = [] ∧ phaseXRest s = s) ∨
    (∃ rest, s.chg = true ∧ s.secIn = .ok :: rest ∧ phaseXRest s =
      ((((s.setSecIn rest).logEvent (.secreq s.orig .ok)).setSecmode s.orig).setRerr
        0x00#8).finishTransfer) ∨
    (∃ c rest, s.chg = true ∧ s.secIn = .err c :: rest ∧ phaseXRest s =
      (((s.setSecIn rest).logEvent (.secreq s.orig (.err c))).setRerr c.code).finishTransfer) := by
  unfold phaseXRest State.askSec
  rcases s.chg with _ | _
  · simp
  · rcases s.secIn with _ | ⟨_ | c, rest⟩ <;> simp

end Sys2Proof.Machine
end

