-- ==== Sys2Proof/Laws/Terms.lean ====
section
/-! SUPPORT. The terms of Safety.lean against the machine's own operations, the bytes that composing stores, and
runs of several steps. -/

namespace Sys2Proof.Machine

/-! ### Terms -/

theorem State.argsOk_iff_argsInRange (s : State) : s.argsOk = true ↔ s.argsInRange := s.argsOk_iff

theorem State.argsOk_eq_false_iff (s : State) : s.argsOk = false ↔ ¬ s.argsInRange := by
  rw [← Bool.not_eq_true, s.argsOk_iff_argsInRange]

theorem State.addrLo_eq_lowAddr (s : State) : s.addrLo = s.lowAddr := by
  apply BitVec.eq_of_toNat_eq
  simp [State.addrLo, State.lowAddr]

theorem State.addrHi_eq_highAddr (s : State) : s.addrHi = s.highAddr := by
  apply BitVec.eq_of_toNat_eq
  simp [State.addrHi, State.highAddr, Nat.shiftRight_eq_div_pow]

theorem statusWord_eq_statusOf (data : Bytes 2) : statusWord data = statusOf data := by
  apply BitVec.eq_of_toNat_eq
  simp only [statusWord, statusOf, BitVec.toNat_append, BitVec.toNat_ofNat]
  generalize data.bytes.getD 0 0#8 = x
  generalize data.bytes.getD 1 0#8 = y
  have := x.isLt
  have := y.isLt
  rw [Nat.shiftLeft_eq, Nat.mul_comm, ← Nat.two_pow_add_eq_or_of_lt (by omega)]
  omega

@[simp] theorem State.clearResult_flagM (s : State) : s.clearResult.flagM = s.flagM := flagsOf_m _ _

@[simp] theorem State.clearResult_flagLenbad (s : State) : s.clearResult.flagLenbad = false :=
  flagsOf_lenbad _ _

@[simp] theorem State.clearResult_bufBytes (s : State) (n : Nat) :
    s.clearResult.bufBytes n = s.bufBytes n := rfl

/-- FLAGS with LENBAD cleared. -/
theorem State.flagsOf_false_flagM (s : State) : flagsOf false s.flagM = s.flags &&& 1#2 := by
  have h : ∀ f : BitVec 2, flagsOf false (f.getLsbD 0) = f &&& 1#2 := by decide
  exact h _

/-- FLAGS with LENBAD set. -/
theorem State.flagsOf_true_flagM (s : State) : flagsOf true s.flagM = s.flags ||| 2#2 := by
  have h : ∀ f : BitVec 2, flagsOf true (f.getLsbD 0) = f ||| 2#2 := by decide
  exact h _

/-! ### What composing stores (R133, R143, R145) -/

theorem State.stampAddress_bufByte_eq (s : State) (j : Nat) :
    s.stampAddress.bufByte j =
      if j = 1 then s.highAddr else if j = 0 then s.lowAddr else s.bufByte j := by
  simp only [State.stampAddress, State.setBufByte_bufByte, s.addrLo_eq_lowAddr,
    s.addrHi_eq_highAddr]

theorem State.stampTrailer_bufByte_eq (s : State) (j : Nat) :
    s.stampTrailer.bufByte j =
      if j = 35 then s.lengthByte else if j = 34 then checksum s.frameHead else s.bufByte j := by
  simp only [State.stampTrailer, State.setBufByte_bufByte]
  rfl

theorem State.stampAddress_frameHead_eq (s : State) : s.stampAddress.frameHead = s.writeHead := by
  simp only [State.frameHead, State.writeHead, State.payload, State.bufBytes,
    State.stampAddress_len]
  rw [List.range_succ_eq_map, List.range_succ_eq_map]
  simp only [List.map_cons, List.map_map]
  congr 1
  · simp [State.stampAddress_bufByte_eq]
  congr 1
  · simp [State.stampAddress_bufByte_eq]
  · exact List.map_congr_left fun i _ => by simp [State.stampAddress_bufByte_eq]

/-- Once the address bytes are stored, they echo ADDR (R143). -/
theorem State.stampAddress_echoOk (s : State) : s.stampAddress.echoOk := by
  unfold State.echoOk State.lowAddr State.highAddr
  rw [State.stampAddress_addr, State.stampAddress_bufByte_eq, State.stampAddress_bufByte_eq]
  exact ⟨rfl, rfl⟩

/-- With the address bytes in place, the buffer's frame head is the write's head (R130, R145). -/
theorem State.frameHead_eq_writeHead {s : State} (h : s.echoOk) : s.frameHead = s.writeHead := by
  simp only [State.frameHead, State.writeHead, State.payload, State.bufBytes]
  rw [List.range_succ_eq_map, List.range_succ_eq_map]
  simp only [List.map_cons, List.map_map]
  exact congrArg₂ List.cons h.1 (congrArg₂ List.cons h.2 rfl)

/-! ### Runs -/

theorem step_of_busy {s : State} (h : s.ph ≠ .idle) : step s = .next (runPhase s) := by
  simp [step, State.ready, h]

theorem State.after_succ {s t : State} (n : Nat) (h : step s = .next t) :
    s.after (n + 1) = t.after n := by
  simp only [State.after, Host.Core.run]
  rw [show core.step s = step s from rfl, h]

end Sys2Proof.Machine
end

