-- ==== Sys2Proof/Machine/Assembler.lean ====
section
/-! DEFINITION. The assembler lines of R97 and the pseudo-instructions of R99: from the characters of one
line to the commands it stands for. The machine does not depend on it. -/

namespace Sys2Proof.Machine

/-- A line's text, as characters. -/
abbrev Chars := List Char

def isBlank (c : Char) : Bool := c = ' ' || c = '\t'

/-- The text without blanks at either end. -/
def trimBlanks (l : Chars) : Chars := ((l.dropWhile isBlank).reverse.dropWhile isBlank).reverse

/-- The parts between commas. -/
def splitCommas : Chars → List Chars
  | [] => [[]]
  | c :: cs =>
    if c = ',' then [] :: splitCommas cs
    else
      match splitCommas cs with
      | [] => [[c]]
      | p :: ps => (c :: p) :: ps

/-- The value of a digit in base 10 or 16. -/
def digitValue (hex : Bool) (c : Char) : Option Nat :=
  let n := c.toNat
  if 48 ≤ n ∧ n ≤ 57 then some (n - 48)
  else if hex ∧ 65 ≤ n ∧ n ≤ 70 then some (n - 55)
  else if hex ∧ 97 ≤ n ∧ n ≤ 102 then some (n - 87)
  else none

/-- The number that the digits spell after the digits read so far. -/
def readDigits (hex : Bool) : Nat → Chars → Option Nat
  | acc, [] => some acc
  | acc, c :: cs =>
    match digitValue hex c with
    | some d => readDigits hex (acc * (if hex then 16 else 10) + d) cs
    | none => none

/-- "Numbers are decimal or `0x` hexadecimal" (R97). -/
def readNumber : Chars → Option Nat
  | [] => none
  | '0' :: 'x' :: c :: cs => readDigits true 0 (c :: cs)
  | c :: cs => readDigits false 0 (c :: cs)

/-- An 8-bit operand; a number that does not fit its field is rejected. -/
def readByte (l : Chars) : Option Byte :=
  match readNumber l with
  | some n => if n < 256 then some (BitVec.ofNat 8 n) else none
  | none => none

/-- A 16-bit operand; a number that does not fit its field is rejected. -/
def readHalf (l : Chars) : Option Half :=
  match readNumber l with
  | some n => if n < 65536 then some (BitVec.ofNat 16 n) else none
  | none => none

/-- Several 8-bit operands. -/
def readBytes : List Chars → Option (List Byte)
  | [] => some []
  | l :: ls =>
    match readByte l, readBytes ls with
    | some b, some bs => some (b :: bs)
    | _, _ => none

/-- "A mode operand of SETMODE may be written by name" (R97). -/
def readMode (l : Chars) : Option Byte :=
  if l = ['S', 'E', 'A', 'L', 'E', 'D'] then some 1#8
  else if l = ['U', 'N', 'S', 'E', 'A', 'L', 'E', 'D'] then some 2#8
  else if l = ['F', 'U', 'L', 'L', 'A', 'C', 'C', 'E', 'S', 'S'] then some 3#8
  else readByte l

/-- The expansion of a pseudo-instruction, if the assembler accepts it (R99). -/
def Pseudo.accept (p : Pseudo) : Option (List Instr) :=
  if p.wellFormed then some p.expand else none

/-- The command with no operand of a mnemonic. -/
def plainCommand (mnemonic : Chars) : Option Instr :=
  if mnemonic = ['N', 'O', 'P'] then some .nop
  else if mnemonic = ['C', 'K', 'C', 'L', 'R'] then some .ckclr
  else if mnemonic = ['C', 'K', 'F', 'I', 'N'] then some .ckfin
  else if mnemonic = ['X', 'M', 'C', 'O', 'M', 'P'] then some .xmcomp
  else if mnemonic = ['X', 'M', 'V', 'A', 'L'] then some .xmval
  else if mnemonic = ['X', 'M', 'W', 'R', 'I', 'T', 'E'] then some .xmwrite
  else if mnemonic = ['X', 'M', 'R', 'E', 'A', 'D'] then some .xmread
  else if mnemonic = ['S', 'T', 'G', 'E', 'T'] then some .stget
  else if mnemonic = ['S', 'T', 'S', 'E', 'E', 'D'] then some .stseed
  else none

/-- The command of a mnemonic with one operand. -/
def unaryCommand (mnemonic operand : Chars) : Option Instr :=
  if mnemonic = ['S', 'E', 'T', 'A', 'D', 'D', 'R'] then (readHalf operand).map .setaddr
  else if mnemonic = ['S', 'E', 'T', 'L', 'E', 'N'] then (readByte operand).map .setlen
  else if mnemonic = ['S', 'E', 'T', 'M', 'A', 'S', 'K'] then (readHalf operand).map .setmask
  else if mnemonic = ['S', 'E', 'T', 'M', 'O', 'D', 'E'] then (readMode operand).map .setmode
  else if mnemonic = ['B', 'U', 'F', 'R', 'D'] then (readByte operand).map .bufrd
  else if mnemonic = ['C', 'K', 'A', 'D', 'D'] then (readByte operand).map .ckadd
  else if mnemonic = ['C', 'K', 'B', 'U', 'F'] then (readByte operand).map .ckbuf
  else if mnemonic = ['S', 'T', 'D', 'E', 'C'] then (readHalf operand).map .stdec
  else if mnemonic = ['S', 'T', 'T', 'E', 'S', 'T'] then (readHalf operand).map .sttest
  else none

/-- The commands of a mnemonic and its operands, in the order `a` then `imm` (R97, R99). -/
def assemble (mnemonic : Chars) (operands : List Chars) : Option (List Instr) :=
  if mnemonic = ['C', 'K', 'S', 'U', 'M'] then
    match readBytes operands with
    | some bs => Pseudo.accept (.cksum bs)
    | none => none
  else
    match operands with
    | [] =>
      if mnemonic = ['W', 'A', 'I', 'T', 'I', 'N', 'I', 'T'] then Pseudo.accept .waitinit
      else (plainCommand mnemonic).map fun i => [i]
    | [x] =>
      if mnemonic = ['P', 'A', 'Y', 'R', 'D'] then
        match readNumber x with
        | some i => Pseudo.accept (.payrd i)
        | none => none
      else (unaryCommand mnemonic x).map fun i => [i]
    | [x, y] =>
      if mnemonic = ['P', 'A', 'Y', 'W', 'R'] then
        match readNumber x, readByte y with
        | some i, some b => Pseudo.accept (.paywr i b)
        | _, _ => none
      else if mnemonic = ['B', 'U', 'F', 'W', 'R'] then
        match readByte x, readByte y with
        | some a, some b => some [.bufwr a b]
        | _, _ => none
      else none
    | _ => none

/-- One line (R97): a comment starts with `;`, the mnemonic comes first, the operands are separated by
commas. A line with nothing but a comment stands for no command. -/
def assembleLine (line : Chars) : Option (List Instr) :=
  let text := trimBlanks (line.takeWhile fun c => c ≠ ';')
  let mnemonic := text.takeWhile fun c => !isBlank c
  let rest := trimBlanks (text.dropWhile fun c => !isBlank c)
  if text = [] then some []
  else if rest = [] then assemble mnemonic []
  else assemble mnemonic ((splitCommas rest).map trimBlanks)

end Sys2Proof.Machine
end

