-- ==== Sys2Proof/Tests/Slice0.lean ====
section
/-! SUPPORT. Tests. The expected results are the vectors of `spec/95_test_vectors.md` (named in each docstring) or
words written out by hand from R90 to R93. The `witness_` theorems show that the hypotheses of each statement can be
met together, clause by clause and at boundary values. -/

namespace Sys2Proof.Tests

open Sys2Proof Sys2Proof.Machine

/-! ### Helpers -/

/-- The next state, if there is one. -/
def nextOf : Host.Outcome State Fault Refusal → Option State
  | .next t => some t
  | .fault _ => none
  | .refused _ => none

/-- A buffer: the bytes `head`, padding `pad` up to index 33, then the bytes 34 and 35. -/
def bufOf (head : List Byte) (pad c l : Byte) : List Host.Cell :=
  cellsOf (head ++ List.replicate (34 - head.length) pad ++ [c, l])

/-- The reset state with a buffer of zeros. -/
def quiet : State := { State.reset with buf := bufOf [] 0x00#8 0x00#8 0x00#8 }

/-- One step with the word `w` presented, seen through `f`. -/
def after1 {α : Type} (s : State) (w : Word) (f : State → α) : Option α :=
  (nextOf (step { s with hostWords := [w] })).map f

/-- One step of the phase `p`, seen through `f`. -/
def phase1 {α : Type} (s : State) (p : Phase) (f : State → α) : Option α :=
  (nextOf (step { s with ph := p })).map f

/-- The base frame F of section 2.4, with the given padding, checksum byte and length byte. -/
def frameF (pad c l : Byte) : List Host.Cell :=
  bufOf [0x00#8, 0x40#8, 0x12#8, 0x34#8, 0x56#8, 0x78#8] pad c l

/-- Vectors X1, T1: the write of [07 D0] to 0x41FE. -/
def writer (m : SecMode) : State :=
  { quiet with addr := 0x41FE#16, len := 2#8, secmode := m,
               buf := bufOf [0x11#8, 0x22#8, 0x07#8, 0xD0#8] 0x00#8 0x00#8 0x00#8 }

/-- Vectors X2, T15: reading back up to 32 bytes from 0x4000, the frame F in the buffer. -/
def reader (m : SecMode) : State :=
  { quiet with addr := 0x4000#16, len := 32#8, secmode := m, buf := frameF 0x00#8 0xAB#8 0x08#8 }

/-- Two received status bytes. -/
def two (a b : Byte) : Bytes 2 := ⟨[a, b], rfl⟩

/-- The frame F as 36 received bytes. -/
def receivedF : Bytes 36 :=
  ⟨[0x00#8, 0x40#8, 0x12#8, 0x34#8, 0x56#8, 0x78#8] ++ List.replicate 28 0x00#8 ++ [0xAB#8, 0x08#8], rfl⟩

/-- SecurityTransitionFailed from the security port. -/
def refusedCode : ErrCode := ⟨0x04#8, by decide⟩

/-- An environment that has answers for every event of a transfer. -/
def answering (s : State) : State :=
  { s with twIn := [.ok, .ok], statusIn := [.ok (two 0x80#8 0x60#8)], frameIn := [.ok receivedF],
           sleepIn := 2, secIn := [.ok, .ok] }

/-! ### Well-formedness -/

/-- R99: "the assembler rejects `i > 31`", said of PAYWR; of PAYRD it is the model's choice (assumption 5). -/
theorem test_paywr_32_is_ill_formed : (Pseudo.paywr 32 0x00#8).wellFormed = false := by decide
theorem test_payrd_32_is_ill_formed : (Pseudo.payrd 32).wellFormed = false := by decide
theorem test_payrd_31_is_well_formed : (Pseudo.payrd 31).wellFormed = true := by decide

/-! ### Decoding: one word for every constructor (R90 to R93), and illegal words (E1 to E10) -/

theorem test_decode_nop : decode 0x00000000#32 = .ok .nop := by decide
theorem test_decode_setaddr : decode 0x010041FE#32 = .ok (.setaddr 0x41FE#16) := by decide
theorem test_decode_setlen : decode 0x02200000#32 = .ok (.setlen 0x20#8) := by decide
theorem test_decode_setmask : decode 0x03000080#32 = .ok (.setmask 0x0080#16) := by decide
theorem test_decode_setmode : decode 0x04020000#32 = .ok (.setmode 2#8) := by decide
theorem test_decode_bufwr : decode 0x08020007#32 = .ok (.bufwr 2#8 0x07#8) := by decide
theorem test_decode_bufrd : decode 0x09020000#32 = .ok (.bufrd 2#8) := by decide
theorem test_decode_ckclr : decode 0x10000000#32 = .ok .ckclr := by decide
theorem test_decode_ckadd : decode 0x11000034#32 = .ok (.ckadd 0x34#8) := by decide
theorem test_decode_ckfin : decode 0x12000000#32 = .ok .ckfin := by decide
theorem test_decode_ckbuf : decode 0x13040000#32 = .ok (.ckbuf 4#8) := by decide
theorem test_decode_xmcomp : decode 0x20000000#32 = .ok .xmcomp := by decide
theorem test_decode_xmval : decode 0x21000000#32 = .ok .xmval := by decide
theorem test_decode_xmwrite : decode 0x22000000#32 = .ok .xmwrite := by decide
theorem test_decode_xmread : decode 0x23000000#32 = .ok .xmread := by decide
theorem test_decode_stget : decode 0x30000000#32 = .ok .stget := by decide
theorem test_decode_stdec : decode 0x31001F7E#32 = .ok (.stdec 0x1F7E#16) := by decide
theorem test_decode_sttest : decode 0x3200FFFF#32 = .ok (.sttest 0xFFFF#16) := by decide
theorem test_decode_stseed : decode 0x33000000#32 = .ok .stseed := by decide
/-- E1, E2. -/
theorem test_decode_reserved : [0x05000000#32, 0xFFFFFFFF#32].map decode =
    [.error .reservedOpcode, .error .reservedOpcode] := by decide
/-- E3 to E8, E10: a nonzero must-be-zero field, once in every format. -/
theorem test_decode_nonzero_field :
    [0x10000001#32, 0x11000100#32, 0x11010034#32, 0x02010001#32, 0x01014000#32, 0x08020107#32,
      0x22010000#32].map decode = List.replicate 7 (.error .nonzeroField) := by decide
/-- The host's interface reads the table's own numbering. -/
theorem test_decode_table_word : decodeTableWord 32 0x08020007 = some (.bufwr 2#8 0x07#8) := by decide
/-- A word placed by the host's interface is the one the next step runs (M2). -/
theorem test_with_fetch_word :
    (nextOf (step (State.reset.withFetchWord 32 0x010041FE))).map (·.addr) = some 0x41FE#16 := by decide
/-- E1: only RES changes. -/
theorem test_illegal_word : after1 { quiet with acc := 0x5A#8 } 0x05000000#32
    (fun t => (t.res, t.acc, t.hostWords)) = some (0x0A#8, 0x5A#8, []) := by decide

/-! ### Assembler lines (R97, R99) -/

/-- Three of R97's examples, one with a comment. -/
theorem test_assemble_line :
    assembleLine "BUFWR 2, 0x07 ; payload".toList = some [.bufwr 2#8 0x07#8] ∧
    assembleLine "SETMODE UNSEALED".toList = some [.setmode 2#8] ∧
    assembleLine "STTEST 0x0080".toList = some [.sttest 0x0080#16] := by decide
/-- R99: the expansions and the rejected index. -/
theorem test_assemble_pseudo :
    assembleLine "PAYWR 31, 255".toList = some [.bufwr 33#8 0xFF#8] ∧
    assembleLine "PAYWR 32, 255".toList = none ∧ assembleLine "CKSUM".toList = some [.ckclr, .ckfin] ∧
    assembleLine "WAITINIT".toList = some [.setmask 0x0080#16, .stget, .sttest 0x0080#16] := by decide

/-! ### Operand and buffer commands (section 2.1) -/

/-- M1. -/
theorem test_nop : after1 { quiet with res := 0x06#8 } 0x00000000#32 (·.res) = some 0x00#8 := by decide
/-- M3. -/
theorem test_setaddr : after1 quiet 0x0100FFFF#32 (fun t => (t.addr, t.res)) =
    some (0xFFFF#16, 0x00#8) := by decide
/-- M5. -/
theorem test_setlen : after1 quiet 0x02FF0000#32 (fun t => (t.len, t.res)) = some (0xFF#8, 0x00#8) := by
  decide
/-- M6. -/
theorem test_setmask : after1 { quiet with flags := 1#2 } 0x03000080#32 (fun t => (t.mask, t.flagM)) =
    some (0x0080#16, true) := by decide
/-- M8. -/
theorem test_setmode : after1 quiet 0x04010000#32 (fun t => (t.secmode, t.res)) =
    some (.sealed, 0x00#8) := by decide
/-- M10. -/
theorem test_setmode_4 : after1 (writer .unsealed) 0x04040000#32 (fun t => (t.secmode, t.res)) =
    some (.unsealed, 0x02#8) := by decide
/-- M12. -/
theorem test_bufwr : after1 quiet 0x082300FF#32 (fun t => (t.bufByte 35, t.bufByte 34, t.res)) =
    some (0xFF#8, 0x00#8, 0x00#8) := by decide
/-- M13. -/
theorem test_bufwr_36 : after1 quiet 0x08240000#32 (fun t => (t.buf, t.res)) = some (quiet.buf, 0x02#8) := by
  decide
/-- M14. -/
theorem test_bufrd : after1 (reader .unknown) 0x09020000#32 (·.out) = some 0x0012#16 := by decide
/-- M16. -/
theorem test_bufrd_36 : after1 { quiet with out := 0x0012#16 } 0x09240000#32 (fun t => (t.out, t.res)) =
    some (0x0012#16, 0x02#8) := by decide

/-! ### Checksum (section 2.3) -/

/-- K1, K6, K8. -/
theorem test_checksum_function : checksum [] = 0xFF#8 ∧ checksum [0xFF#8, 0xFF#8] = 0x01#8 ∧
    checksum [0xFE#8, 0x41#8, 0x07#8, 0xD0#8] = 0xE9#8 := by decide
/-- K20. -/
theorem test_ckclr : after1 { quiet with acc := 0x5A#8, csum := 0x11#8, out := 0x2222#16 } 0x10000000#32
    (fun t => (t.acc, t.csum, t.out)) = some (0x00#8, 0x11#8, 0x2222#16) := by decide
/-- K21. -/
theorem test_ckadd : after1 { quiet with acc := 0x86#8 } 0x11000079#32 (·.acc) = some 0xFF#8 := by decide
/-- K22. -/
theorem test_ckadd_wraps : after1 { quiet with acc := 0xFF#8 } 0x11000001#32 (fun t => (t.acc, t.flags)) =
    some (0x00#8, 0#2) := by decide
/-- K24. -/
theorem test_ckfin : after1 { quiet with acc := 0x86#8 } 0x12000000#32 (fun t => (t.csum, t.out, t.acc)) =
    some (0x79#8, 0x0079#16, 0x86#8) := by decide
/-- K29. -/
theorem test_ckbuf : after1 { quiet with buf := bufOf [] 0xFF#8 0xFF#8 0xFF#8 } 0x13240000#32
    (fun t => (t.csum, t.res)) = some (0x23#8, 0x00#8) := by decide
/-- K30. -/
theorem test_ckbuf_37 : after1 { quiet with csum := 0x79#8 } 0x13250000#32 (fun t => (t.csum, t.res)) =
    some (0x79#8, 0x02#8) := by decide

/-! ### Frames (section 2.4) -/

/-- X1. -/
theorem test_xmcomp : after1 (writer .unknown) 0x20000000#32
    (fun t => (t.bufBytes 4, t.bufByte 34, t.bufByte 35, t.csum, t.res)) =
      some ([0xFE#8, 0x41#8, 0x07#8, 0xD0#8], 0xE9#8, 0x06#8, 0xE9#8, 0x00#8) := by decide
/-- X1h. -/
theorem test_xmcomp_33 : after1 { reader .unknown with len := 33#8 } 0x20000000#32
    (fun t => (t.buf, t.res)) = some (frameF 0x00#8 0xAB#8 0x08#8, 0x02#8) := by decide
/-- X5. -/
theorem test_xmval : after1 { reader .unknown with buf := frameF 0xAA#8 0xAB#8 0x08#8 } 0x21000000#32
    (fun t => (t.csum, t.rlen, t.res)) = some (0xAB#8, 4#8, 0x00#8) := by decide
/-- X8. -/
theorem test_xmval_bad_length : after1 { reader .unknown with buf := frameF 0x00#8 0xAB#8 0x04#8 }
    0x21000000#32 (fun t => (t.csum, t.flags, t.rlen, t.res)) = some (0x00#8, 2#2, 0#8, 0x06#8) := by decide

/-! ### Transfers (section 2.5) -/

/-- T13: the argument is tested before the mode. -/
theorem test_xmwrite_argument_first : after1 { writer .unknown with addr := 0x3FFF#16 } 0x22000000#32
    (fun t => (t.ph, t.res)) = some (.idle, 0x02#8) := by decide
/-- T1, the entry: Sealed is unsealed first. -/
theorem test_xmwrite : after1 (writer .sealed) 0x22000000#32 (fun t => (t.ph, t.orig, t.hostWords)) =
    some (.wSec, .sealed, []) := by decide
/-- T27: RLEN and LENBAD are cleared before the checks, RERR stays. -/
theorem test_xmread_unknown :
    after1 { reader .unknown with rlen := 4#8, flags := 2#2, rerr := 0x04#8 } 0x23000000#32
      (fun t => (t.rlen, t.flags, t.rerr, t.res)) = some (0#8, 0#2, 0x04#8, 0x03#8) := by decide
/-- T15, the entry. -/
theorem test_xmread : after1 (reader .unsealed) 0x23000000#32 (fun t => (t.ph, t.chg)) =
    some (.rAddr, false) := by decide
/-- T1: the frame head is sent. -/
theorem test_write_frame_phase : phase1 (answering (writer .unsealed)) .wFrame (·.history) =
    some [.tw Config.regMac [0xFE#8, 0x41#8, 0x07#8, 0xD0#8] .ok] := rfl
/-- T5, T6: a failed re-seal gives RERR, and RES only if the body succeeded. -/
theorem test_restoration_fails :
    phase1 { writer .unsealed with orig := .sealed, chg := true, e := 0x07#8,
                                   secIn := [.err ⟨0x01#8, by decide⟩] } .xRest
      (fun t => (t.res, t.rerr, t.secmode)) = some (0x07#8, 0x01#8, .unsealed) := by decide

/-! ### Status (section 2.6) -/

/-- G1v. -/
theorem test_stget : after1 { quiet with statusIn := [.ok (two 0x81#8 0x60#8)] } 0x30000000#32
    (fun t => (t.stat, t.res)) = some (0x6081#16, 0x00#8) := by decide
/-- G3v. -/
theorem test_stget_io_error : after1 { quiet with statusIn := [.ioError], stat := 0x1234#16 } 0x30000000#32
    (fun t => (t.stat, t.res)) = some (0x1234#16, 0x01#8) := by decide
/-- D5. -/
theorem test_stdec : after1 quiet 0x31004001#32
    (fun t => (t.statRun, t.statInit, t.statSec, t.statXmfail)) = some (true, false, 2#2, false) := by decide
/-- D6. -/
theorem test_stdec_bit_13 : after1 quiet 0x31002080#32
    (fun t => (t.statRun, t.statInit, t.statSec, t.statXmfail)) = some (false, true, 1#2, false) := by decide
/-- C9v. -/
theorem test_sttest_field : after1 { quiet with stat := 0x6081#16, mask := 0x6000#16 } 0x32004000#32
    (fun t => (t.flagM, t.res)) = some (false, 0x00#8) := by decide
/-- C6v; LENBAD stays (R32). -/
theorem test_sttest : after1 { quiet with stat := 0xFFFF#16, flags := 2#2 } 0x32000000#32 (·.flags) =
    some 3#2 := by decide
/-- Q1 to Q4: instances A and B of SEC_DECODE are among the 24 admitted. -/
theorem test_sec_decode_instances :
    [0#2, 1#2, 2#2, 3#2].map (secDecodeOf 5) = [.unknown, .fullAccess, .unsealed, .sealed] ∧
    [0#2, 1#2, 2#2, 3#2].map (secDecodeOf 9) = [.sealed, .unsealed, .fullAccess, .unknown] := by decide
/-- Q4 under instance A: the mode is written, and Unknown is an error. -/
theorem test_stseed_unknown : (fun t : State => (t.secmode, t.res)) (quiet.seed .unknown) =
    (.unknown, 0x03#8) := by decide

/-! ### Witnesses: encoding and the step -/

theorem witness_DecodeAfterEncodeIsIdentity :
    (Instr.bufwr 0xFF#8 0xFF#8).wellFormed = true ∧ (Instr.setaddr 0xFFFF#16).wellFormed = true := by decide

theorem witness_IllegalWordOnlyWritesRes :
    quiet.ph = .idle ∧ ({ quiet with hostWords := [0x10000001#32] } : State).hostWords = [0x10000001#32] ∧
      ∀ row ∈ commandRows, 0x10000001#32 &&& row.1 ≠ row.2 := by
  refine ⟨rfl, rfl, ?_⟩
  simp [commandRows]

theorem witness_StepRunsTheDecodedCommand :
    quiet.ph = .idle ∧ ({ quiet with hostWords := [0x11000034#32] } : State).hostWords = [0x11000034#32] ∧
      decode 0x11000034#32 = .ok (.ckadd 0x34#8) ∧ (Instr.ckadd 0x34#8).wellFormed = true ∧
      quiet.hostWords = [] := by decide

/-- A busy block: a write waiting for its status, with a word at the port. -/
def busyState : State := { answering (writer .unsealed) with ph := .wStat, hostWords := [0x00000000#32] }

theorem witness_BusyBlockKeepsWaitingWordAndOperands :
    busyState.ph ≠ .idle ∧ step busyState = .next (runPhase busyState) := ⟨by decide, rfl⟩

theorem witness_EngineWaitsForAMissingAnswer : quiet.statusIn = [] ∧
    ([.wSec, .wFrame, .wDly1, .wSum, .wDly2, .wStat, .rSec, .rAddr, .rFrame] : List Phase).map
        (fun p => ({ quiet with ph := p } : State).answered) = List.replicate 9 false ∧
      ({ quiet with ph := .xRest, chg := true } : State).answered = false := by decide

theorem witness_AnsweredPhaseMovesOn :
    busyState.ph ≠ .idle ∧ busyState.answered = true ∧ step busyState = .next (runPhase busyState) :=
  ⟨by decide, by decide, rfl⟩

theorem witness_HistoryGrowsByAtMostOneEvent : step quiet = .next quiet := rfl

/-! ### Witnesses: operand, buffer and checksum commands -/

theorem witness_SetmodeRecordsAMode :
    (0#8 = 0#8 ∨ 3 < (0#8).toNat) ∧ (4#8 = 0#8 ∨ 3 < (4#8).toNat) ∧ (255#8 = 0#8 ∨ 3 < (255#8).toNat) := by
  decide

theorem witness_BufwrStoresOneByte :
    (0#8).toNat ≤ 35 ∧ (35#8).toNat ≤ 35 ∧ 34 ≠ (35#8).toNat ∧ 35 < (36#8).toNat ∧ 35 < (255#8).toNat := by
  decide

theorem witness_BufrdLoadsOneByte :
    (0#8).toNat ≤ 35 ∧ (35#8).toNat ≤ 35 ∧ 35 < (36#8).toNat ∧ 35 < (255#8).toNat := by decide

theorem witness_ChecksumIsComplementOfSum : [0x34#8, 0x12#8].Perm [0x12#8, 0x34#8] := List.Perm.swap _ _ _

theorem witness_ChecksumLaws :
    ∃ h : 3 < [0x00#8, 0x40#8, 0x12#8, 0x34#8].length, 0xB4#8 ≠ [0x00#8, 0x40#8, 0x12#8, 0x34#8][3] :=
  ⟨by decide, by decide⟩

theorem witness_CkbufSumsTheFirstBytes :
    (0#8).toNat ≤ 36 ∧ (36#8).toNat ≤ 36 ∧ 36 < (37#8).toNat ∧ 36 < (255#8).toNat := by decide

theorem witness_CksumExpansionComputesTheChecksum :
    quiet.ph = .idle ∧ ({ quiet with hostWords := [0x10000000#32, 0x11000034#32, 0x12000000#32, 0x00000000#32] }
      : State).hostWords = (Pseudo.cksum [0x34#8]).expand.map encode ++ [0x00000000#32] := by decide

/-- The index at the ends of its two ranges. -/
theorem witness_PayloadPseudosReachThePayload : 0 ≤ 31 ∧ 31 ≤ 31 ∧ 31 < 32 ∧ 31 < 256 := by decide

/-! ### Witnesses: frames -/

theorem witness_XmcompComposesTheFrame :
    ({ quiet with addr := 0x4000#16, len := 1#8 } : State).argsInRange ∧
    ({ quiet with addr := 0x43FF#16, len := 32#8 } : State).argsInRange ∧
    ¬ ({ quiet with addr := 0x3FFF#16, len := 1#8 } : State).argsInRange ∧
    ¬ ({ quiet with addr := 0x4400#16, len := 1#8 } : State).argsInRange ∧
    ¬ ({ quiet with addr := 0x4000#16, len := 0#8 } : State).argsInRange ∧
    ¬ ({ quiet with addr := 0x4000#16, len := 33#8 } : State).argsInRange := by
  unfold State.argsInRange
  decide

/-- The five ways XMVAL ends: X1g, X4, X8a (lengths 4 and 37), X6, X2. -/
theorem witness_XmvalValidatesTheFrame :
    ¬ ({ reader .unknown with len := 0#8 } : State).argsInRange ∧
    (reader .unknown).argsInRange ∧
    ¬ ({ reader .unknown with addr := 0x4001#16 } : State).echoOk ∧
    ({ reader .unknown with addr := 0x4001#16 } : State).argsInRange ∧
    (reader .unknown).echoOk ∧ (reader .unknown).lengthOk ∧
    ¬ ({ reader .unknown with buf := frameF 0x00#8 0xAB#8 0x04#8 } : State).lengthOk ∧
    ¬ ({ reader .unknown with buf := frameF 0x00#8 0xAB#8 0x25#8 } : State).lengthOk ∧
    ({ reader .unknown with buf := frameF 0x00#8 0xAB#8 0x05#8 } : State).lengthOk ∧
    ({ reader .unknown with buf := frameF 0x00#8 0xAB#8 0x24#8 } : State).lengthOk ∧
    ({ reader .unknown with buf := frameF 0x00#8 0xAB#8 0x25#8 } : State).echoOk ∧
    (reader .unknown).frameSum = (reader .unknown).bufByte 34 ∧
    ({ reader .unknown with buf := frameF 0x00#8 0xAA#8 0x08#8 } : State).frameSum ≠ 0xAA#8 := by
  unfold State.argsInRange State.echoOk State.lengthOk
  decide

/-- What XMCOMP composes in X1. -/
def composed : State := (writer .unknown).stampAddress.stampTrailer.succeed

/-- X1's frame with byte `j` overwritten, ready to be validated. -/
def tampered (j : Nat) : State := { composed with buf := cellWrite composed.buf j 0x55#8, len := 32#8 }

/-- The requested maximum at both ends of its range. -/
theorem witness_ComposedFrameValidates :
    (writer .unknown).argsInRange ∧ exec .xmcomp (writer .unknown) = .next composed ∧
    ∀ m ∈ [1, 32], ({ composed with len := BitVec.ofNat 8 m } : State).addr = (writer .unknown).addr ∧
      1 ≤ ({ composed with len := BitVec.ofNat 8 m } : State).len.toNat ∧
      ({ composed with len := BitVec.ofNat 8 m } : State).len.toNat ≤ 32 ∧
      ∀ k < 36, (k < (writer .unknown).len.toNat + 2 ∨ k = 34 ∨ k = 35) →
        ({ composed with len := BitVec.ofNat 8 m } : State).bufByte k = composed.bufByte k :=
  ⟨by unfold State.argsInRange; decide, rfl, by decide⟩

/-- The tampered index at the boundaries of its clauses: 0, 1 (address), 2, LEN + 1 (payload), 34. -/
theorem witness_TamperedFrameIsRejected :
    (writer .unknown).argsInRange ∧ exec .xmcomp (writer .unknown) = .next composed ∧
    ∀ j ∈ [0, 1, 2, 3, 34], (tampered j).addr = (writer .unknown).addr ∧
      1 ≤ (tampered j).len.toNat ∧ (tampered j).len.toNat ≤ 32 ∧
      (j < (writer .unknown).len.toNat + 2 ∨ j = 34) ∧ (tampered j).bufByte j ≠ composed.bufByte j ∧
      ∀ k < 36, k ≠ j → (k < (writer .unknown).len.toNat + 2 ∨ k = 34 ∨ k = 35) →
        (tampered j).bufByte k = composed.bufByte k :=
  ⟨by unfold State.argsInRange; decide, rfl, by decide⟩

/-- X5: another padding. -/
theorem witness_PaddingNeverInfluencesValidation :
    ({ reader .unknown with buf := frameF 0xAA#8 0xAB#8 0x08#8 } : State) ≠ reader .unknown ∧
    ∀ i < 36, (i < 2 ∨ i < (reader .unknown).frameL - 2 ∨ i = 34 ∨ i = 35) →
      ({ reader .unknown with buf := frameF 0xAA#8 0xAB#8 0x08#8 } : State).bufByte i =
        (reader .unknown).bufByte i := by
  refine ⟨fun h => absurd (congrArg (fun t : State => t.bufByte 6) h) (by decide), ?_⟩
  decide

/-! ### Witnesses: transfers -/

theorem witness_XmwriteEntry :
    (writer .unknown).argsInRange ∧ ¬ ({ writer .unknown with len := 33#8 } : State).argsInRange ∧
    (writer .unknown).secmode = .unknown ∧ (writer .sealed).secmode = .sealed ∧
    (writer .fullAccess).secmode = .fullAccess := by
  unfold State.argsInRange
  decide

theorem witness_XmreadEntry :
    (reader .unknown).argsInRange ∧ ¬ ({ reader .unknown with len := 0#8 } : State).argsInRange ∧
    (reader .unknown).secmode = .unknown ∧ (reader .sealed).secmode = .sealed ∧
    (reader .unsealed).secmode = .unsealed := by
  unfold State.argsInRange
  decide

theorem witness_ImplicitUnsealPhase :
    ({ writer .sealed with ph := .wSec, secIn := [.ok] } : State).secIn = .ok :: [] ∧
    ({ reader .sealed with ph := .rSec, secIn := [.ok] } : State).ph = .rSec ∧
    ({ writer .sealed with ph := .wSec, secIn := [.err refusedCode] } : State).secIn =
      .err refusedCode :: [] := by decide

theorem witness_WriteFramePhase :
    ({ writer .unsealed with ph := .wFrame, twIn := [.ioError] } : State).twIn = .ioError :: [] ∧
    ({ writer .unsealed with ph := .wFrame, twIn := [.ioError] } : State).ph = .wFrame := by decide

theorem witness_SettleDelayPhases :
    ({ writer .unsealed with ph := .wDly1, sleepIn := 1 } : State).sleepIn = 0 + 1 ∧
    ({ writer .unsealed with ph := .wDly1, sleepIn := 1 } : State).ph = .wDly1 ∧
    ({ writer .unsealed with ph := .wDly2, sleepIn := 1 } : State).ph = .wDly2 := by decide

theorem witness_WriteSumPhase :
    ({ answering (writer .unsealed) with ph := .wSum } : State).ph = .wSum ∧
    ({ answering (writer .unsealed) with ph := .wSum } : State).argsInRange ∧
    ({ answering (writer .unsealed) with ph := .wSum } : State).twIn = .ok :: [.ok] ∧
    ({ answering (writer .unsealed) with buf := bufOf [0xFE#8, 0x41#8] 0x07#8 0x00#8 0x00#8 } : State).echoOk := by
  unfold State.argsInRange State.echoOk
  decide

theorem witness_WriteStatusPhase :
    busyState.ph = .wStat ∧ busyState.statusIn = .ok (two 0x80#8 0x60#8) :: [] ∧
    ({ busyState with statusIn := [.ioError] } : State).statusIn = .ioError :: [] := by decide

theorem witness_ReadAddressPhase :
    ({ reader .unsealed with ph := .rAddr, twIn := [.ok] } : State).twIn = .ok :: [] ∧
    ({ reader .unsealed with ph := .rAddr, twIn := [.ioError] } : State).twIn = .ioError :: [] := by decide

theorem witness_ReadFramePhase :
    ({ reader .unsealed with ph := .rFrame, frameIn := [.ok receivedF] } : State).frameIn =
      .ok receivedF :: [] ∧
    ({ reader .unsealed with ph := .rFrame, frameIn := [.ioError] } : State).frameIn = .ioError :: [] ∧
    ({ reader .unsealed with ph := .rFrame } : State).ph = .rFrame := by decide

/-- T15, T17, T23 (also with the length byte 37), T16. -/
theorem witness_ReadValidationPhase :
    ({ reader .unsealed with ph := .rVal } : State).ph = .rVal ∧
    (reader .unsealed).echoOk ∧ (reader .unsealed).lengthOk ∧
    (reader .unsealed).frameSum = (reader .unsealed).bufByte 34 ∧
    ¬ ({ reader .unsealed with addr := 0x4001#16 } : State).echoOk ∧
    ¬ ({ reader .unsealed with buf := frameF 0x00#8 0xAB#8 0x04#8 } : State).lengthOk ∧
    ¬ ({ reader .unsealed with buf := frameF 0x00#8 0xAB#8 0x25#8 } : State).lengthOk ∧
    ({ reader .unsealed with buf := frameF 0x00#8 0xAA#8 0x08#8 } : State).frameSum ≠ 0xAA#8 := by
  unfold State.echoOk State.lengthOk
  decide

theorem witness_RestorationPhase :
    ({ writer .unsealed with ph := .xRest } : State).chg = false ∧
    ({ writer .unsealed with ph := .xRest, orig := .sealed, chg := true, secIn := [.err refusedCode] }
      : State).secIn = .err refusedCode :: [] ∧
    ({ writer .unsealed with ph := .xRest, orig := .sealed, chg := true } : State).chg = true := by decide

/-- A write from Sealed with every answer given. -/
theorem witness_EveryWriteRunIsListed :
    ({ answering (writer .sealed) with hostWords := [0x22000000#32] } : State).presents .xmwrite [] ∧
    ({ answering (writer .sealed) with hostWords := [0x22000000#32] } : State).argsInRange ∧
    (writer .sealed).secmode ≠ .unknown ∧ (answering (writer .sealed)).writeReady ∧
    ({ answering (writer .unsealed) with secIn := [], frameIn := [] } : State).writeReady := by
  unfold State.presents State.argsInRange State.writeReady
  decide

theorem witness_EveryReadRunIsListed :
    ({ answering (reader .sealed) with hostWords := [0x23000000#32] } : State).presents .xmread [] ∧
    ({ answering (reader .sealed) with hostWords := [0x23000000#32] } : State).argsInRange ∧
    (reader .sealed).secmode ≠ .unknown ∧ (answering (reader .sealed)).readReady ∧
    ({ answering (reader .unsealed) with secIn := [], statusIn := [], sleepIn := 0 } : State).readReady := by
  unfold State.presents State.argsInRange State.readReady
  decide

theorem witness_DirectWriteSendsTheFrame :
    ({ answering (writer .unsealed) with hostWords := [0x22000000#32] } : State).presents .xmwrite [] ∧
    ({ answering (writer .unsealed) with hostWords := [0x22000000#32] } : State).argsInRange ∧
    ((writer .unsealed).secmode = .unsealed ∨ (writer .unsealed).secmode = .fullAccess) ∧
    (answering (writer .unsealed)).twIn = .ok :: .ok :: [] ∧
    (answering (writer .unsealed)).statusIn = .ok (two 0x80#8 0x60#8) :: [] ∧
    (answering (writer .unsealed)).sleepIn = 0 + 2 := by
  unfold State.presents State.argsInRange
  decide

theorem witness_AnsweredTransferEnds :
    ({ answering (writer .sealed) with ph := .wSec } : State).ph ≠ .idle ∧
    ({ answering (writer .sealed) with ph := .wSec } : State).environmentReady := by
  unfold State.environmentReady
  decide

/-- The end of T4: the body has failed, and the re-seal is still to come. -/
def restoring : State :=
  { writer .unsealed with ph := .xRest, orig := .sealed, chg := true, e := 0x01#8, secIn := [.ok] }

theorem restoring_inv : restoring.Inv where
  buffer := by decide
  args := fun _ => by decide
  modes := Or.inl (by decide)
  rerr := fun _ => rfl
  noErrorYet := fun _ h => absurd rfl h
  bodyCode := fun _ => by decide
  rlen := by decide
  cleared := fun h => absurd h (by decide)
  lenbad := fun h => absurd h (by decide)
  addressStored := fun h => absurd h (by decide)
  trailerStored := fun h => absurd h (by decide)

/-- T1 at W_STAT: the frame of X1 has been stored and sent. -/
def awaitingStatus : State :=
  { answering (writer .unsealed) with ph := .wStat, orig := .unsealed, csum := 0xE9#8,
                                      buf := bufOf [0xFE#8, 0x41#8, 0x07#8, 0xD0#8] 0x00#8 0xE9#8 0x06#8 }

theorem awaitingStatus_inv : awaitingStatus.Inv where
  buffer := by decide
  args := fun _ => by decide
  modes := Or.inr (by decide)
  rerr := fun _ => rfl
  noErrorYet := fun _ _ => rfl
  bodyCode := fun h => absurd h (by decide)
  rlen := by decide
  cleared := fun h => absurd h (by decide)
  lenbad := fun h => absurd h (by decide)
  addressStored := fun _ => by unfold State.echoOk; decide
  trailerStored := fun _ => by decide

theorem witness_ChangedModeIsAlwaysRestoredOrReported :
    restoring.Inv ∧ restoring.ph ≠ .idle ∧ restoring.chg = true ∧
      step restoring = .next (runPhase restoring) ∧ (runPhase restoring).ph = .idle :=
  ⟨restoring_inv, by decide, by decide, rfl, by decide⟩

/-! ### Witnesses: status commands and whole-machine rules -/

theorem witness_StgetReadsTheStatus :
    ({ quiet with statusIn := [.ok (two 0x81#8 0x60#8)] } : State).statusIn = .ok (two 0x81#8 0x60#8) :: [] ∧
    ({ quiet with statusIn := [.ioError] } : State).statusIn = .ioError :: [] := by decide

theorem witness_ViewsDecodeTheStatusWord : busyState.ph ≠ .idle ∧ quiet.ph = .idle ∧
    HostReg.stat ≠ .ready := by decide

theorem witness_WaitinitPollsInitComplete :
    quiet.ph = .idle ∧
    ({ quiet with hostWords := [0x03000080#32, 0x30000000#32, 0x32000080#32] } : State).hostWords =
      Pseudo.waitinit.expand.map encode ++ [] ∧
    ({ quiet with statusIn := [.ok (two 0x80#8 0x60#8)] } : State).statusIn =
      .ok (two 0x80#8 0x60#8) :: [] := by decide

/-- One state for the modes and the body's code, one for the stored frame. -/
theorem witness_StepKeepsTheInvariant :
    (restoring.Inv ∧ step restoring = .next (runPhase restoring)) ∧
    awaitingStatus.Inv ∧ step awaitingStatus = .next (runPhase awaitingStatus) :=
  ⟨⟨restoring_inv, rfl⟩, awaitingStatus_inv, rfl⟩

/-- P4 step 9: BUFRD changes OUT; ADDR, LEN, MASK and ACC change in `test_setaddr`, `test_setlen`, `test_setmask`
and `test_ckadd`. -/
theorem witness_OperandRegistersHaveTheirWriters :
    ∃ t, step { reader .unsealed with hostWords := [0x09020000#32] } = .next t ∧
      t.out ≠ (reader .unsealed).out :=
  ⟨_, rfl, by decide⟩

theorem witness_SecmodeHasItsWriters :
    restoring.Inv ∧ step restoring = .next (runPhase restoring) ∧
      (runPhase restoring).secmode ≠ restoring.secmode :=
  ⟨restoring_inv, rfl, by decide⟩

/-- XMVAL changes CSUM and RLEN; the other registers change in `test_stget`, `test_restoration_fails`,
`test_sttest` and `test_xmval_bad_length`. -/
theorem witness_StatusRegistersHaveTheirWriters :
    ∃ t, step { reader .unsealed with hostWords := [0x21000000#32] } = .next t ∧
      t.csum ≠ (reader .unsealed).csum ∧ t.rlen ≠ (reader .unsealed).rlen :=
  ⟨_, rfl, by decide, by decide⟩

theorem witness_BufferBytesHaveTheirWriters :
    ∃ t, step { quiet with hostWords := [0x082300FF#32] } = .next t ∧ t.bufByte 35 ≠ quiet.bufByte 35 :=
  ⟨_, rfl, by decide⟩

/-- The three ways: RES unchanged or an engine's code; and the port's, by a failed re-seal after a body that
succeeded. -/
theorem witness_ResHoldsEngineOrPortCodes :
    restoring.Inv ∧ step restoring = .next (runPhase restoring) ∧
      (runPhase { restoring with e := 0x00#8, secIn := [.err ⟨0x4D#8, by decide⟩] }).res = 0x4D#8 :=
  ⟨restoring_inv, rfl, by decide⟩

/-- Instance A of 95_test_vectors.md 2.6, a function of the second clause's shape. -/
theorem witness_SecDecodeGivesEachModeOneCode :
    ∀ m ∈ [SecMode.unknown, .sealed, .unsealed, .fullAccess], ∃ c, secDecodeOf 5 c = m ∧
      ∀ d, secDecodeOf 5 d = m → d = c := by decide

theorem witness_OtherCommandsIgnoreTheMode :
    Instr.xmval ≠ .xmwrite ∧ Instr.xmval ≠ .xmread ∧ Instr.xmval ≠ .stseed ∧
      (∀ a, Instr.xmval ≠ .setmode a) ∧ ∃ t, exec .xmval (reader .unknown) = .next t :=
  ⟨by decide, by decide, by decide, nofun, _, rfl⟩

end Sys2Proof.Tests
end

section
/-! The reset state (R39): what a buffer given by a function on its indices reads, and the values reset leaves. -/

namespace Sys2Proof.Machine

/-- A buffer that lists each index of `is` with its byte under `f` reads as `f` there. -/
theorem cellAt_map_of_mem (is : List Nat) (f : Nat → Byte) (i : Nat) (h : i ∈ is) :
    cellAt (is.map fun j => (j, f j)) i = some (f i) := by
  induction is with
  | nil => simp at h
  | cons k ks ih =>
    by_cases hk : k = i
    · simp [cellAt, hk]
    · have hi : i ∈ ks := List.mem_of_ne_of_mem (Ne.symm hk) h
      simp [cellAt, hk, ih hi]

/-- R39, U1: a byte of the buffer at reset is the free value of its index, never the value read
where no cell is listed. -/
theorem State.reset_bufByte (i : Nat) (h : i < 36) : State.reset.bufByte i = Config.bufReset i := by
  have hcell : cellAt State.reset.buf i = some (Config.bufReset i) :=
    cellAt_map_of_mem (List.range 36) Config.bufReset i (List.mem_range.mpr h)
  simp [State.bufByte, cellRead, hcell]

@[simp] theorem State.reset_flagM : State.reset.flagM = false := rfl

@[simp] theorem State.reset_flagLenbad : State.reset.flagLenbad = false := rfl

@[simp] theorem State.reset_ready : State.reset.ready = true := rfl

/-- Settles O51: each register stands in the definition of reset, the flags and `ready` are read off
it, and the buffer's bytes are the free values. -/
theorem resetValues : Obligations.ResetValues :=
  ⟨rfl, rfl, rfl, rfl, rfl, rfl, rfl, rfl, rfl, rfl, rfl, State.reset_flagM, State.reset_flagLenbad, rfl,
    State.reset_ready, rfl, rfl, rfl, rfl, State.reset_bufByte⟩

end Sys2Proof.Machine
end

section
/-! The opcode map (R91, R93, R94): a row's mask covers the opcode, so a word is selected by the row of its
opcode alone, and what no row selects is illegal. -/

namespace Sys2Proof

/-- Every format's mask covers the whole opcode (R91). -/
@[simp] theorem Format.opField_mask (f : Format) : opField f.mask = BitVec.allOnes 8 := by
  cases f <;> decide

/-- A word that agrees with a row under the row's mask has the row's opcode. -/
theorem CommandRow.op_eq_of_selects {r : CommandRow} {w : Word} (h : w &&& r.format.mask = r.pattern) :
    r.op = opField w := by
  have hop := congrArg opField h
  rw [opField_and, Format.opField_mask, BitVec.and_allOnes, CommandRow.pattern, opField_pack] at hop
  exact hop.symm

/-- No opcode stands in two rows of the opcode map (R93). -/
theorem nodup_commandTable_op : (commandTable.map CommandRow.op).Nodup := by decide

/-- The `(mask, match)` columns are those of the decoder's own table. -/
theorem Machine.commandRows_eq_map :
    Machine.commandRows = commandTable.map fun r => (r.format.mask, r.pattern) := by decide

/-- At most one row of the opcode table selects a word: the rows that do share the word's opcode. -/
theorem Machine.length_filter_commandRows_le_one (w : Word) :
    (Machine.commandRows.filter fun row => decide (w &&& row.1 = row.2)).length ≤ 1 := by
  rw [Machine.commandRows_eq_map, ← List.countP_eq_length_filter, List.countP_map]
  calc commandTable.countP (fun r => decide (w &&& r.format.mask = r.pattern))
      ≤ commandTable.countP (fun r => r.op == opField w) := by
        refine List.countP_mono_left fun r _ hsel => ?_
        exact beq_iff_eq.mpr (CommandRow.op_eq_of_selects (of_decide_eq_true hsel))
    _ = (commandTable.map CommandRow.op).count (opField w) := by
        rw [List.count, List.countP_map]; rfl
    _ ≤ 1 := List.nodup_iff_count_le_one.mp nodup_commandTable_op _

/-- A word that no row of the opcode table selects decodes to an error (R94). -/
theorem decode_error_of_no_row {w : Word} (h : ∀ row ∈ Machine.commandRows, w &&& row.1 ≠ row.2) :
    ∃ err, decode w = .error err := by
  rcases hd : decode w with err | i
  · exact ⟨err, rfl⟩
  · obtain ⟨r, hr, -, hsel, -⟩ := decode_ok_row hd
    have hrow : (r.format.mask, r.pattern) ∈ Machine.commandRows := by
      rw [Machine.commandRows_eq_map]
      exact List.mem_map_of_mem hr
    exact absurd hsel (h _ hrow)

end Sys2Proof

namespace Sys2Proof.Machine

/-- An illegal word at the ready port ends with IllegalCommand in one step (R94). -/
theorem step_of_decode_error {s : State} {w : Word} {rest : List Word} {err : DecodeError}
    (hph : s.ph = .idle) (hw : s.hostWords = w :: rest) (hd : decode w = .error err) :
    step s = .next s.illegalWord := by
  simp [step, State.ready, State.presented, hph, hw, hd]

/-- The whole state an illegal word leaves: RES holds IllegalCommand and the word is taken (R94). -/
theorem State.illegalWord_eq (s : State) :
    s.illegalWord = { s with res := 0x0A#8, hostWords := s.hostWords.tail } := rfl

/-- Settles O4: the rows' opcodes are distinct and covered by their masks, and a word without a row
decodes to an error, whose step is `illegalWord`. -/
theorem illegalWordOnlyWritesRes : Obligations.IllegalWordOnlyWritesRes := by
  intro w
  refine ⟨length_filter_commandRows_le_one w, fun hnone s rest hph hw => ?_⟩
  obtain ⟨err, hd⟩ := decode_error_of_no_row hnone
  rw [step_of_decode_error hph hw hd, State.illegalWord_eq, hw, List.tail_cons]

end Sys2Proof.Machine
end

section
/-! The operand and buffer commands (R111 to R117): the numbers of their words, the whole state an end of a
command leaves, and one equation per case of each command. -/

namespace Sys2Proof

/-! ### The command words in numbers (R90, R93) -/

/-- A word without an immediate is its opcode and its operand at their places. -/
theorem pack_zero_imm_toNat (op a : Byte) :
    (pack op a 0#16).toNat = op.toNat * 0x1000000 + a.toNat * 0x10000 := by
  rw [pack_toNat, BitVec.toNat_zero, Nat.add_zero]

/-- A word without an operand `a` is its opcode and its immediate at their places. -/
theorem pack_zero_operand_toNat (op : Byte) (imm : Half) :
    (pack op 0#8 imm).toNat = op.toNat * 0x1000000 + imm.toNat := by
  rw [pack_toNat, BitVec.toNat_zero, Nat.zero_mul, Nat.add_zero]

/-- A byte immediate keeps its number in the 16-bit field: the format AB leaves bits 15:8 zero (R91). -/
theorem pack_byte_imm_toNat (op a imm : Byte) :
    (pack op a (imm.setWidth 16)).toNat = op.toNat * 0x1000000 + a.toNat * 0x10000 + imm.toNat := by
  rw [pack_toNat, BitVec.toNat_setWidth_of_le (by decide)]

theorem encode_setaddr_toNat (imm : Half) : (encode (.setaddr imm)).toNat = 0x01000000 + imm.toNat :=
  pack_zero_operand_toNat 0x01#8 imm

theorem encode_setlen_toNat (a : Byte) : (encode (.setlen a)).toNat = 0x02000000 + a.toNat * 0x10000 :=
  pack_zero_imm_toNat 0x02#8 a

theorem encode_setmask_toNat (imm : Half) : (encode (.setmask imm)).toNat = 0x03000000 + imm.toNat :=
  pack_zero_operand_toNat 0x03#8 imm

theorem encode_setmode_toNat (a : Byte) : (encode (.setmode a)).toNat = 0x04000000 + a.toNat * 0x10000 :=
  pack_zero_imm_toNat 0x04#8 a

theorem encode_bufwr_toNat (a imm : Byte) :
    (encode (.bufwr a imm)).toNat = 0x08000000 + a.toNat * 0x10000 + imm.toNat :=
  pack_byte_imm_toNat 0x08#8 a imm

theorem encode_bufrd_toNat (a : Byte) : (encode (.bufrd a)).toNat = 0x09000000 + a.toNat * 0x10000 :=
  pack_zero_imm_toNat 0x09#8 a

end Sys2Proof

namespace Sys2Proof.Machine

/-! ### The two ends of a single-step command (R110, R175) -/

/-- The whole state a successful command leaves: RES holds OK and the word is taken. -/
theorem State.succeed_eq (s : State) :
    s.succeed = { s with res := 0x00#8, hostWords := s.hostWords.tail } := rfl

/-- The whole state an exception leaves: RES holds the code and the word is taken (R175). -/
theorem State.raise_eq (s : State) (k : ResultKind) :
    s.raise k = { s with res := k.code, hostWords := s.hostWords.tail } := rfl

/-! ### NOP and the operand registers (R111 to R114) -/

theorem exec_nop (s : State) : exec .nop s = .next s.succeed := rfl

theorem exec_setaddr (imm : Half) (s : State) : exec (.setaddr imm) s = .next (s.setAddr imm).succeed := rfl

theorem exec_setlen (a : Byte) (s : State) : exec (.setlen a) s = .next (s.setLen a).succeed := rfl

theorem exec_setmask (imm : Half) (s : State) : exec (.setmask imm) s = .next (s.setMask imm).succeed := rfl

/-- Settles O11: NOP is the ordinary end of a command and nothing before it. -/
theorem nopOnlyWritesRes : Obligations.NopOnlyWritesRes :=
  ⟨pack_zero_imm_toNat 0x00#8 0#8, fun s => by rw [exec_nop, State.succeed_eq]⟩

/-- Settles O12: each command is its register's update, then the ordinary end of a command. -/
theorem operandCommandsWriteTheirRegister : Obligations.OperandCommandsWriteTheirRegister := by
  refine ⟨encode_setaddr_toNat, encode_setlen_toNat, encode_setmask_toNat, fun s => ⟨?_, ?_, ?_⟩⟩
  · intro imm
    rw [exec_setaddr, State.succeed_eq, State.setAddr]
  · intro a
    rw [exec_setlen, State.succeed_eq, State.setLen]
  · intro imm
    rw [exec_setmask, State.succeed_eq, State.setMask]

/-! ### SETMODE (R115) -/

/-- The operands that name no mode: 0, and every operand above 3. -/
theorem modeOfOperand_eq_none {a : Byte} (h : a = 0#8 ∨ 3 < a.toNat) : modeOfOperand a = none := by
  have h1 : a ≠ 1#8 := by rintro rfl; revert h; decide
  have h2 : a ≠ 2#8 := by rintro rfl; revert h; decide
  have h3 : a ≠ 3#8 := by rintro rfl; revert h; decide
  rw [modeOfOperand, if_neg h1, if_neg h2, if_neg h3]

theorem exec_setmode_of_some {a : Byte} {m : SecMode} (s : State) (h : modeOfOperand a = some m) :
    exec (.setmode a) s = .next (s.setSecmode m).succeed := by
  simp only [exec, execSetmode, h]

theorem exec_setmode_of_none {a : Byte} (s : State) (h : modeOfOperand a = none) :
    exec (.setmode a) s = .next (s.raise .invalidArgument) := by
  simp only [exec, execSetmode, h]

/-- Settles O13: the operands 1 to 3 name their modes, and every other operand names none. -/
theorem setmodeRecordsAMode : Obligations.SetmodeRecordsAMode := by
  refine ⟨encode_setmode_toNat, fun s => ⟨?_, ?_, ?_, fun a ha => ?_⟩⟩
  · exact exec_setmode_of_some s (m := .sealed) rfl
  · exact exec_setmode_of_some s (m := .unsealed) rfl
  · exact exec_setmode_of_some s (m := .fullAccess) rfl
  · rw [exec_setmode_of_none s (modeOfOperand_eq_none ha), State.raise_eq, ResultKind.code]

/-! ### BUFWR and BUFRD (R116, R117) -/

theorem exec_bufwr_of_le {a : Byte} (imm : Byte) (s : State) (h : a.toNat ≤ 35) :
    exec (.bufwr a imm) s = .next (s.setBufByte a.toNat imm).succeed :=
  if_neg (Nat.not_le_of_lt (Nat.lt_succ_of_le h))

theorem exec_bufwr_of_gt {a : Byte} (imm : Byte) (s : State) (h : 35 < a.toNat) :
    exec (.bufwr a imm) s = .next (s.raise .invalidArgument) :=
  if_pos h

theorem exec_bufrd_of_le {a : Byte} (s : State) (h : a.toNat ≤ 35) :
    exec (.bufrd a) s = .next (s.setOut ((s.bufByte a.toNat).setWidth 16)).succeed :=
  if_neg (Nat.not_le_of_lt (Nat.lt_succ_of_le h))

theorem exec_bufrd_of_gt {a : Byte} (s : State) (h : 35 < a.toNat) :
    exec (.bufrd a) s = .next (s.raise .invalidArgument) :=
  if_pos h

/-- Settles O14: up to index 35 one byte is written, which reads back while every other byte stays
(`State.setBufByte_bufByte`); above 35 the exception writes RES alone. -/
theorem bufwrStoresOneByte : Obligations.BufwrStoresOneByte := by
  refine fun a b s => ⟨encode_bufwr_toNat a b, fun hle => ?_, fun hgt => ?_⟩
  · refine ⟨_, exec_bufwr_of_le b s hle, rfl, ?_, fun j hj => ?_⟩
    · rw [State.succeed_bufByte, State.setBufByte_bufByte_same]
    · rw [State.succeed_bufByte, State.setBufByte_bufByte, if_neg hj]
  · rw [exec_bufwr_of_gt b s hgt, State.raise_eq, ResultKind.code]

/-- Settles O15: up to index 35 OUT holds the byte, whose number a zero extension keeps; above 35 the
exception writes RES alone. -/
theorem bufrdLoadsOneByte : Obligations.BufrdLoadsOneByte := by
  refine fun a s => ⟨encode_bufrd_toNat a, fun hle => ?_, fun hgt => ?_⟩
  · refine ⟨_, exec_bufrd_of_le s hle, rfl, ?_⟩
    rw [State.succeed_out, State.setOut_out, BitVec.toNat_setWidth_of_le (by decide)]
  · rw [exec_bufrd_of_gt s hgt, State.raise_eq, ResultKind.code]

end Sys2Proof.Machine
end

section
/-! The checksum function and its laws (R120, R127): the value is the bitwise complement of the sum, a function
of the sum alone, and the sum adds up over the places of the sequence. -/

namespace Sys2Proof.Machine

/-! ### The complement `0xFF - x` of a byte -/

theorem ff_sub_eq_not (x : Byte) : 0xFF#8 - x = ~~~x := BitVec.allOnes_sub_eq_not x

/-- The subtraction from 0xFF never borrows. -/
theorem ff_sub_toNat (x : Byte) : (0xFF#8 - x).toNat = 255 - x.toNat := by
  rw [ff_sub_eq_not, BitVec.toNat_not]

/-! ### The checksum as a function of the sum (R120) -/

theorem checksum_toNat (bs : List Byte) :
    (checksum bs).toNat = 255 - (bs.map BitVec.toNat).sum % 256 := by
  rw [checksum, ff_sub_toNat, sumBytes_toNat]

theorem checksum_eq_xor (bs : List Byte) : checksum bs = sumBytes bs ^^^ 0xFF#8 :=
  calc checksum bs = ~~~sumBytes bs := ff_sub_eq_not _
    _ = sumBytes bs ^^^ BitVec.allOnes 8 := BitVec.xor_allOnes.symm

theorem checksum_eq_checksum_iff (bs cs : List Byte) :
    checksum bs = checksum cs ↔ sumBytes bs = sumBytes cs :=
  BitVec.sub_right_inj 0xFF#8

/-- The sum does not depend on the order of the bytes. -/
theorem sumBytes_perm {bs cs : List Byte} (h : bs.Perm cs) : sumBytes bs = sumBytes cs := by
  rw [sumBytes, sumBytes, (h.map BitVec.toNat).sum_nat]

/-- Settles O16: the complement in numbers and as an XOR, of a sum that no permutation changes. -/
theorem checksumIsComplementOfSum : Obligations.ChecksumIsComplementOfSum :=
  fun bs => ⟨checksum_toNat bs, checksum_eq_xor bs, fun cs h =>
    (checksum_eq_checksum_iff cs bs).mpr (sumBytes_perm h).symm⟩

/-! ### The laws (R127) -/

/-- A byte appended at the end is added to the sum. -/
theorem sumBytes_concat (bs : List Byte) (c : Byte) : sumBytes (bs ++ [c]) = sumBytes bs + c := by
  rw [sumBytes_append, sumBytes_singleton]

/-- R127 (a) and (c): the checksum is the one byte that completes the sum to 0xFF. -/
theorem eq_checksum_iff (bs : List Byte) (c : Byte) :
    c = checksum bs ↔ sumBytes (bs ++ [c]) = 0xFF#8 := by
  rw [checksum, BitVec.eq_sub_iff_add_eq, sumBytes_concat, BitVec.add_comm]

/-- R127 (b): a sequence that sums to 0xFF has the checksum 0x00. -/
theorem checksum_eq_zero_of_sumBytes {bs : List Byte} (h : sumBytes bs = 0xFF#8) :
    checksum bs = 0x00#8 := by
  rw [checksum, h, BitVec.sub_self]

/-- The byte written at place `k` is one summand; the bytes before and after it are the others. -/
theorem sumBytes_set {bs : List Byte} {k : Nat} (h : k < bs.length) (b : Byte) :
    sumBytes (bs.set k b) = sumBytes (bs.take k) + (b + sumBytes (bs.drop (k + 1))) := by
  rw [List.set_eq_take_cons_drop b h, sumBytes_append, sumBytes_cons]

/-- Two sequences that differ at most at place `k` have the same sum only if they agree there. -/
theorem sumBytes_set_inj {bs : List Byte} {k : Nat} (h : k < bs.length) (b c : Byte) :
    sumBytes (bs.set k b) = sumBytes (bs.set k c) ↔ b = c := by
  rw [sumBytes_set h, sumBytes_set h, BitVec.add_right_inj, BitVec.add_left_inj]

/-- R127 (d). -/
theorem checksum_set_ne {bs : List Byte} {k : Nat} (h : k < bs.length) {b : Byte} (hb : b ≠ bs[k]) :
    checksum (bs.set k b) ≠ checksum bs := by
  intro heq
  have hsum : sumBytes (bs.set k b) = sumBytes (bs.set k bs[k]) := by
    rwa [List.set_getElem_self, ← checksum_eq_checksum_iff]
  exact hb ((sumBytes_set_inj h b bs[k]).mp hsum)

/-- Settles O17: (a) and (b) are (c) read at the checksum itself; (d) cancels the summands that stay. -/
theorem checksumLaws : Obligations.ChecksumLaws := by
  intro bs
  have hsum : sumBytes (bs ++ [checksum bs]) = 0xFF#8 := (eq_checksum_iff bs _).mp rfl
  exact ⟨hsum, checksum_eq_zero_of_sumBytes hsum, eq_checksum_iff bs, fun _ _ h => checksum_set_ne h⟩

end Sys2Proof.Machine
end

section
/-! The checksum commands (R122 to R125): the numbers of their words, one equation per case of each command, and
the whole state each leaves. -/

namespace Sys2Proof

/-! ### The command words in numbers (R90, R93) -/

theorem encode_ckclr_toNat : (encode .ckclr).toNat = 0x10000000 := pack_zero_imm_toNat 0x10#8 0#8

theorem encode_ckadd_toNat (imm : Byte) : (encode (.ckadd imm)).toNat = 0x11000000 + imm.toNat :=
  pack_byte_imm_toNat 0x11#8 0#8 imm

theorem encode_ckfin_toNat : (encode .ckfin).toNat = 0x12000000 := pack_zero_imm_toNat 0x12#8 0#8

theorem encode_ckbuf_toNat (a : Byte) : (encode (.ckbuf a)).toNat = 0x13000000 + a.toNat * 0x10000 :=
  pack_zero_imm_toNat 0x13#8 a

end Sys2Proof

namespace Sys2Proof.Machine

/-! ### CKCLR and CKADD (R122, R123) -/

theorem exec_ckclr (s : State) : exec .ckclr s = .next (s.setAcc 0x00#8).succeed := rfl

theorem exec_ckadd (imm : Byte) (s : State) :
    exec (.ckadd imm) s = .next (s.setAcc (s.acc + imm)).succeed := rfl

/-- Settles O18: ACC's update, then the ordinary end of a command. -/
theorem ckclrClearsAcc : Obligations.CkclrClearsAcc :=
  ⟨encode_ckclr_toNat, fun s => by rw [exec_ckclr, State.succeed_eq, State.setAcc]⟩

/-- Settles O19: the addition of two bytes loses the carry out of bit 7. -/
theorem ckaddAddsModulo256 : Obligations.CkaddAddsModulo256 := by
  refine fun b s => ⟨encode_ckadd_toNat b, _, exec_ckadd b s, rfl, ?_⟩
  rw [State.succeed_acc, State.setAcc_acc, BitVec.toNat_add]

/-! ### CKFIN and CKBUF (R124, R125) -/

theorem exec_ckfin (s : State) : exec .ckfin s = .next (s.deliver (0xFF#8 - s.acc)).succeed := rfl

theorem exec_ckbuf_of_le {a : Byte} (s : State) (h : a.toNat ≤ 36) :
    exec (.ckbuf a) s = .next (s.deliver (checksum (s.bufBytes a.toNat))).succeed :=
  if_neg (Nat.not_lt_of_le h)

theorem exec_ckbuf_of_gt {a : Byte} (s : State) (h : 36 < a.toNat) :
    exec (.ckbuf a) s = .next (s.raise .invalidArgument) :=
  if_pos h

/-- The whole state a delivery leaves: CSUM and OUT, and nothing else. -/
theorem State.deliver_eq (s : State) (c : Byte) :
    s.deliver c = { s with csum := c, out := c.setWidth 16 } := rfl

/-- After a delivering command OUT shows the same number as CSUM: a zero extension keeps it. -/
theorem State.deliver_succeed_out_toNat (s : State) (c : Byte) :
    (s.deliver c).succeed.out.toNat = (s.deliver c).succeed.csum.toNat := by
  rw [State.succeed_out, State.deliver_out, BitVec.toNat_setWidth_of_le (by decide), State.succeed_csum,
    State.deliver_csum]

/-- Settles O20: CKFIN delivers the complement of ACC, which the delivery leaves alone. -/
theorem ckfinDeliversComplementOfAcc : Obligations.CkfinDeliversComplementOfAcc := by
  refine ⟨encode_ckfin_toNat, fun s => ⟨_, exec_ckfin s, ?_, ?_, ?_⟩⟩
  · rw [State.succeed_eq, State.deliver_eq]
  · rw [State.succeed_csum, State.deliver_csum, ff_sub_toNat]
  · exact s.deliver_succeed_out_toNat _

/-- Settles O21: up to 36 the checksum of the first bytes is delivered; above 36 the exception writes RES
alone. -/
theorem ckbufSumsTheFirstBytes : Obligations.CkbufSumsTheFirstBytes := by
  refine fun a s => ⟨encode_ckbuf_toNat a, fun hle => ?_, fun hgt => ?_⟩
  · refine ⟨_, exec_ckbuf_of_le s hle, ?_, ?_, ?_⟩
    · rw [State.succeed_eq, State.deliver_eq]
    · rw [State.succeed_csum, State.deliver_csum, State.bufBytes]
    · exact s.deliver_succeed_out_toNat _
  · rw [exec_ckbuf_of_gt s hgt, State.raise_eq, ResultKind.code]

end Sys2Proof.Machine
end

section
/-! Composition and validation of frames (R130 to R135): the numbers of the two words, the whole state and the
bytes that composing leaves, one equation per end of the validation, and the ends of XMCOMP and XMVAL. -/

namespace Sys2Proof

/-! ### The command words in numbers (R90, R93) -/

theorem encode_xmcomp_toNat : (encode .xmcomp).toNat = 0x20000000 := pack_zero_imm_toNat 0x20#8 0#8

theorem encode_xmval_toNat : (encode .xmval).toNat = 0x21000000 := pack_zero_imm_toNat 0x21#8 0#8

end Sys2Proof

namespace Sys2Proof.Machine

/-! ### XMCOMP (R133) -/

theorem exec_xmcomp_of_argsInRange {s : State} (h : s.argsInRange) :
    exec .xmcomp s = .next s.stampAddress.stampTrailer.succeed :=
  if_pos (s.argsOk_iff_argsInRange.mpr h)

theorem exec_xmcomp_of_not_argsInRange {s : State} (h : ¬ s.argsInRange) :
    exec .xmcomp s = .next (s.raise .invalidArgument) :=
  if_neg (mt s.argsOk_iff_argsInRange.mp h)

/-- The whole state the trailer leaves: nothing but BUF and CSUM changes. -/
theorem State.stampTrailer_eq (s : State) :
    s.stampTrailer = { s with buf := s.stampTrailer.buf, csum := checksum s.frameHead } := by
  rw [State.stampTrailer_buf]
  simp only [State.stampTrailer, State.setBufByte, State.setBuf, State.setCsum]

/-- The whole state composing leaves: the trailer's checksum is taken after the address bytes are stored,
so it is that of the write's head; outside BUF and CSUM nothing changes. -/
theorem State.stampAddress_stampTrailer_eq (s : State) :
    s.stampAddress.stampTrailer =
      { s with buf := s.stampAddress.stampTrailer.buf, csum := checksum s.writeHead } :=
  calc s.stampAddress.stampTrailer
      = { s.stampAddress with
          buf := s.stampAddress.stampTrailer.buf, csum := checksum s.stampAddress.frameHead } :=
        s.stampAddress.stampTrailer_eq
    _ = _ := by
        rw [State.stampAddress_frameHead_eq]
        rfl

/-- Every byte of the composed buffer: address and trailer at their four places, the old byte elsewhere. -/
theorem State.stampAddress_stampTrailer_bufByte (s : State) (j : Nat) :
    s.stampAddress.stampTrailer.bufByte j =
      if j = 35 then s.lengthByte else if j = 34 then checksum s.writeHead
      else if j = 1 then s.highAddr else if j = 0 then s.lowAddr else s.bufByte j := by
  rw [State.stampTrailer_bufByte_eq, State.stampAddress_bufByte_eq, State.stampAddress_frameHead_eq,
    State.stampAddress_lengthByte]

/-- Settles O24: in range the frame's places read as composed, and the length byte does not wrap because
LEN is at most 32; out of range the exception writes RES alone. -/
theorem xmcompComposesTheFrame : Obligations.XmcompComposesTheFrame := by
  refine ⟨encode_xmcomp_toNat, fun s => ⟨fun h => ?_, fun h => ?_⟩⟩
  · have hbyte (j : Nat) := (s.stampAddress.stampTrailer.succeed_bufByte j).trans
      (s.stampAddress_stampTrailer_bufByte j)
    have hlen := s.lengthByte_toNat (s.argsOk_iff_argsInRange.mpr h)
    refine ⟨_, exec_xmcomp_of_argsInRange h, ?_, hbyte 0, hbyte 1, hbyte 34, ?_, ?_⟩
    · exact congrArg State.succeed s.stampAddress_stampTrailer_eq
    · rw [hbyte, if_pos rfl, hlen]
    · intro j h0 h1 h34 h35
      rw [hbyte, if_neg h35, if_neg h34, if_neg h1, if_neg h0]
  · rw [exec_xmcomp_of_not_argsInRange h, State.raise_eq, ResultKind.code]

/-! ### The validation VAL in the rules' terms (R134) -/

theorem State.echo_mismatch_iff (s : State) :
    (s.bufByte 0 ≠ s.addrLo ∨ s.bufByte 1 ≠ s.addrHi) ↔ ¬ s.echoOk := by
  rw [s.addrLo_eq_lowAddr, s.addrHi_eq_highAddr, State.echoOk, not_and_or]

theorem State.length_out_of_range_iff (s : State) :
    ((s.bufByte 35).toNat < 5 ∨ 36 < (s.bufByte 35).toNat) ↔ ¬ s.lengthOk := by
  rw [State.lengthOk, State.frameL, not_and_or, Nat.not_le, Nat.not_le]

theorem State.validate_of_not_echoOk {s : State} (h : ¬ s.echoOk) :
    s.validate = (.addressMismatch, s) :=
  if_pos (s.echo_mismatch_iff.mpr h)

theorem State.validate_of_not_lengthOk {s : State} (hecho : s.echoOk) (h : ¬ s.lengthOk) :
    s.validate = (.checksumMismatch, s.setLenbad true) := by
  rw [State.validate, if_neg (mt s.echo_mismatch_iff.mp (not_not_intro hecho))]
  exact if_pos (s.length_out_of_range_iff.mpr h)

/-- With the address echoed and a possible length, the checksum over the covered range decides. -/
theorem State.validate_of_lengthOk {s : State} (hecho : s.echoOk) (hlen : s.lengthOk) :
    s.validate = if s.frameSum ≠ s.bufByte 34 then (.checksumMismatch, s.setCsum s.frameSum)
      else (.ok, (s.setCsum s.frameSum).setRlen (BitVec.ofNat 8 s.effectiveLength)) := by
  rw [State.validate, if_neg (mt s.echo_mismatch_iff.mp (not_not_intro hecho)),
    if_neg (mt s.length_out_of_range_iff.mp (not_not_intro hlen))]
  rfl

theorem State.validate_of_frameSum_ne {s : State} (hecho : s.echoOk) (hlen : s.lengthOk)
    (hsum : s.frameSum ≠ s.bufByte 34) :
    s.validate = (.checksumMismatch, s.setCsum s.frameSum) := by
  rw [State.validate_of_lengthOk hecho hlen, if_pos hsum]

theorem State.validate_of_frameSum_eq {s : State} (hecho : s.echoOk) (hlen : s.lengthOk)
    (hsum : s.frameSum = s.bufByte 34) :
    s.validate = (.ok, (s.setCsum s.frameSum).setRlen (BitVec.ofNat 8 s.effectiveLength)) := by
  rw [State.validate_of_lengthOk hecho hlen, if_neg (not_not_intro hsum)]

/-! ### What the first action of XMVAL leaves (R135) -/

@[simp] theorem State.clearResult_frameSum (s : State) : s.clearResult.frameSum = s.frameSum := rfl

@[simp] theorem State.clearResult_effectiveLength (s : State) :
    s.clearResult.effectiveLength = s.effectiveLength := rfl

/-- The whole state after RLEN and LENBAD are cleared: M, bit 0 of FLAGS, stays. -/
theorem State.clearResult_eq (s : State) :
    s.clearResult = { s with rlen := 0x00#8, flags := s.flags &&& 1#2 } := by
  rw [← s.flagsOf_false_flagM]
  rfl

/-- LENBAD set again after it was cleared: M still stays. -/
theorem State.clearResult_setLenbad_true_eq (s : State) :
    s.clearResult.setLenbad true =
      { s with rlen := 0x00#8, flags := (s.flags &&& 1#2) ||| 2#2 } := by
  rw [State.setLenbad, State.flagsOf_true_flagM, State.clearResult_eq, State.setFlags]

theorem State.endCommand_eq (s : State) (k : ResultKind) :
    s.endCommand k = { s with res := k.code, hostWords := s.hostWords.tail } := rfl

/-! ### XMVAL (R135) -/

/-- In range, XMVAL ends as the validation of the cleared state does. -/
theorem exec_xmval_of_validate {s t : State} {k : ResultKind} (h : s.argsInRange)
    (hval : s.clearResult.validate = (k, t)) : exec .xmval s = .next (t.endCommand k) := by
  have hexec : exec .xmval s = .next (s.clearResult.validate.2.endCommand s.clearResult.validate.1) :=
    if_pos (s.argsOk_iff_argsInRange.mpr h)
  rw [hexec, hval]

theorem exec_xmval_of_not_argsInRange {s : State} (h : ¬ s.argsInRange) :
    exec .xmval s = .next (s.clearResult.raise .invalidArgument) :=
  if_neg (mt s.argsOk_iff_argsInRange.mp h)

/-- Settles O25: one end of the validation for each clause, run after the clearing, which leaves ADDR, LEN
and the buffer as they were. -/
theorem xmvalValidatesTheFrame : Obligations.XmvalValidatesTheFrame := by
  refine ⟨encode_xmval_toNat, fun s => ⟨fun hargs => ?_, fun hargs hecho => ?_,
    fun hargs hecho hlen => ?_, fun hargs hecho hlen hsum => ?_, fun hargs hecho hlen hsum => ?_⟩⟩
  · rw [exec_xmval_of_not_argsInRange hargs, State.clearResult_eq, State.raise_eq, ResultKind.code]
  · have hval := State.validate_of_not_echoOk (s := s.clearResult) hecho
    rw [exec_xmval_of_validate hargs hval, State.clearResult_eq, State.endCommand_eq, ResultKind.code]
  · have hval := State.validate_of_not_lengthOk (s := s.clearResult) hecho hlen
    rw [exec_xmval_of_validate hargs hval, State.clearResult_setLenbad_true_eq, State.endCommand_eq,
      ResultKind.code]
  · have hval := State.validate_of_frameSum_ne (s := s.clearResult) hecho hlen hsum
    rw [exec_xmval_of_validate hargs hval, State.clearResult_frameSum, State.clearResult_eq,
      State.endCommand_eq, State.setCsum, ResultKind.code]
  · have hval := State.validate_of_frameSum_eq (s := s.clearResult) hecho hlen hsum
    rw [exec_xmval_of_validate hargs hval, State.clearResult_frameSum,
      State.clearResult_effectiveLength, State.clearResult_eq, State.endCommand_eq, State.setCsum,
      State.setRlen, ResultKind.code]

end Sys2Proof.Machine
end

section
/-! The phases of the transfers (R143 to R155): the phase PH names is the step, each phase with the answer it
gets is one equation, and the whole state it leaves. -/

namespace Sys2Proof.Machine

/-! ### A step in mid-transfer is the phase PH names (R140) -/

theorem step_of_wFrame {s : State} (h : s.ph = .wFrame) : step s = .next (phaseWFrame s) := by
  rw [step_of_busy (by simp [h]), runPhase, h]

theorem step_of_wDly1 {s : State} (h : s.ph = .wDly1) : step s = .next (phaseDelay .wSum s) := by
  rw [step_of_busy (by simp [h]), runPhase, h]

theorem step_of_wSum {s : State} (h : s.ph = .wSum) : step s = .next (phaseWSum s) := by
  rw [step_of_busy (by simp [h]), runPhase, h]

theorem step_of_wDly2 {s : State} (h : s.ph = .wDly2) : step s = .next (phaseDelay .wStat s) := by
  rw [step_of_busy (by simp [h]), runPhase, h]

theorem step_of_wStat {s : State} (h : s.ph = .wStat) : step s = .next (phaseWStat s) := by
  rw [step_of_busy (by simp [h]), runPhase, h]

theorem step_of_rAddr {s : State} (h : s.ph = .rAddr) : step s = .next (phaseRAddr s) := by
  rw [step_of_busy (by simp [h]), runPhase, h]

theorem step_of_rFrame {s : State} (h : s.ph = .rFrame) : step s = .next (phaseRFrame s) := by
  rw [step_of_busy (by simp [h]), runPhase, h]

theorem step_of_rVal {s : State} (h : s.ph = .rVal) : step s = .next (phaseRVal s) := by
  rw [step_of_busy (by simp [h]), runPhase, h]

theorem step_of_xRest {s : State} (h : s.ph = .xRest) : step s = .next (phaseXRest s) := by
  rw [step_of_busy (by simp [h]), runPhase, h]

/-- The whole state a body's end leaves, well or with an error (R176). -/
theorem State.leaveBody_eq (s : State) (k : ResultKind) :
    s.leaveBody k = { s with e := k.code, ph := .xRest } := rfl

/-! ### The phases that send bytes: what a TW answer decides (R143, R145, R150) -/

/-- A body's phase goes on to `next` with an ok and to X_REST with an IoError (R176). -/
def State.afterTw (s : State) (next : Phase) : TwAnswer → State
  | .ok => s.setPh next
  | .ioError => s.leaveBody .ioError

@[simp] theorem State.afterTw_csum (s : State) (next : Phase) (answer : TwAnswer) :
    (s.afterTw next answer).csum = s.csum := by cases answer <;> rfl

@[simp] theorem State.afterTw_bufByte (s : State) (next : Phase) (answer : TwAnswer) (j : Nat) :
    (s.afterTw next answer).bufByte j = s.bufByte j := by cases answer <;> rfl

/-- The whole state after a TW event that got an ok. -/
theorem State.afterTw_ok_eq (s : State) (rest : List TwAnswer) (ev : Event) (next : Phase) :
    ((s.setTwIn rest).logEvent ev).afterTw next .ok =
      { s with twIn := rest, history := s.history ++ [ev], ph := next } := rfl

/-- The whole state after a TW event that got an IoError. -/
theorem State.afterTw_ioError_eq (s : State) (rest : List TwAnswer) (ev : Event) (next : Phase) :
    ((s.setTwIn rest).logEvent ev).afterTw next .ioError =
      { s with twIn := rest, history := s.history ++ [ev], ph := .xRest, e := 0x01#8 } := by
  simp only [State.afterTw, State.leaveBody_eq, State.logEvent, State.setHistory, State.setTwIn,
    ResultKind.code]

theorem phaseWFrame_of_answer {s : State} {answer : TwAnswer} {rest : List TwAnswer}
    (h : s.twIn = answer :: rest) :
    phaseWFrame s = ((s.stampAddress.setTwIn rest).logEvent
      (.tw Config.regMac s.writeHead answer)).afterTw .wDly1 answer := by
  cases answer <;> simpa [h, State.stampAddress_frameHead_eq, State.afterTw] using phaseWFrame_cases s

theorem phaseWSum_of_answer {s : State} {answer : TwAnswer} {rest : List TwAnswer}
    (h : s.twIn = answer :: rest) :
    phaseWSum s = ((s.stampTrailer.setTwIn rest).logEvent
      (.tw Config.regMacSum [checksum s.frameHead, s.lengthByte] answer)).afterTw .wDly2 answer := by
  cases answer <;> simpa [h, State.afterTw] using phaseWSum_cases s

theorem phaseRAddr_of_answer {s : State} {answer : TwAnswer} {rest : List TwAnswer}
    (h : s.twIn = answer :: rest) :
    phaseRAddr s = ((s.setTwIn rest).logEvent
      (.tw Config.regMac [s.lowAddr, s.highAddr] answer)).afterTw .rFrame answer := by
  cases answer <;>
    simpa [h, s.addrLo_eq_lowAddr, s.addrHi_eq_highAddr, State.afterTw] using phaseRAddr_cases s

/-- Settles O32: the address bytes are stored at 0 and 1, the head is then the write's, and the answer
decides PH and E. -/
theorem writeFramePhase : Obligations.WriteFramePhase := by
  intro s answer rest hph hans
  refine ⟨_, step_of_wFrame hph, ?_⟩
  rw [phaseWFrame_of_answer hans]
  refine ⟨?_, ?_, fun j h0 h1 => ?_, ?_⟩
  · simp [State.stampAddress_bufByte_eq]
  · simp [State.stampAddress_bufByte_eq]
  · simp [State.stampAddress_bufByte_eq, h0, h1]
  · cases answer with
    | ok => simp [State.afterTw_ok_eq]
    | ioError => simp [State.afterTw_ioError_eq]

/-- Settles O36: the two address bytes are sent from ADDR and nothing is stored. -/
theorem readAddressPhase : Obligations.ReadAddressPhase := by
  intro s rest hph
  refine ⟨fun hok => ?_, fun herr => ?_⟩
  · rw [step_of_rAddr hph, phaseRAddr_of_answer hok, State.afterTw_ok_eq]
  · rw [step_of_rAddr hph, phaseRAddr_of_answer herr, State.afterTw_ioError_eq]

/-! ### The trailer on a buffer that echoes ADDR already (R145) -/

/-- Storing the address bytes where they stand already changes no byte. -/
theorem State.stampAddress_bufByte_of_echoOk {s : State} (h : s.echoOk) (j : Nat) :
    s.stampAddress.bufByte j = s.bufByte j := by
  obtain ⟨hlow, hhigh⟩ := h
  rw [State.stampAddress_bufByte_eq]
  split_ifs with h1 h0
  · rw [h1, hhigh]
  · rw [h0, hlow]
  · rfl

/-- XMCOMP and W_SUM compose the same bytes when the address bytes are in place. -/
theorem State.stampAddress_stampTrailer_bufByte_of_echoOk {s : State} (h : s.echoOk) (j : Nat) :
    s.stampAddress.stampTrailer.bufByte j = s.stampTrailer.bufByte j := by
  rw [State.stampTrailer_bufByte_eq, State.stampTrailer_bufByte_eq,
    State.stampAddress_bufByte_of_echoOk h, State.stampAddress_frameHead_eq,
    State.frameHead_eq_writeHead h, State.stampAddress_lengthByte]

theorem State.stampAddress_stampTrailer_csum_of_echoOk {s : State} (h : s.echoOk) :
    s.stampAddress.stampTrailer.csum = s.stampTrailer.csum := by
  rw [State.stampTrailer_csum, State.stampTrailer_csum, State.stampAddress_frameHead_eq,
    State.frameHead_eq_writeHead h]

/-- Settles O34: the trailer is stored over the head as it stands, LEN in range keeps the length byte from
wrapping, and with the address bytes in place XMCOMP composes the same. -/
theorem writeSumPhase : Obligations.WriteSumPhase := by
  intro s answer rest hph hargs hans
  have hlen := s.lengthByte_toNat (s.argsOk_iff_argsInRange.mpr hargs)
  refine ⟨_, step_of_wSum hph, ?_⟩
  rw [phaseWSum_of_answer hans]
  refine ⟨?_, ?_, ?_, fun j h34 h35 => ?_, fun hecho => ?_, ?_⟩
  · simp [State.frameHead, State.bufBytes]
  · simp [State.stampTrailer_bufByte_eq]
  · simp [State.stampTrailer_bufByte_eq, hlen]
  · simp [State.stampTrailer_bufByte_eq, h34, h35]
  · refine ⟨_, exec_xmcomp_of_argsInRange hargs, ?_, fun j => ?_⟩
    · simpa using State.stampAddress_stampTrailer_csum_of_echoOk hecho
    · simpa using State.stampAddress_stampTrailer_bufByte_of_echoOk hecho j
  · have hbyte : s.stampTrailer.bufByte 35 = s.lengthByte := by
      rw [State.stampTrailer_bufByte_eq, if_pos rfl]
    simp only [State.afterTw_csum, State.afterTw_bufByte, State.logEvent_csum, State.logEvent_bufByte,
      State.setTwIn_csum, State.setTwIn_bufByte, hbyte]
    cases answer with
    | ok => simp [State.afterTw_ok_eq]
    | ioError => simp [State.afterTw_ioError_eq]

/-! ### The settle delays (R144, R146) -/

theorem phaseDelay_of_sleepIn {s : State} {n : Nat} (after : Phase) (h : s.sleepIn = n + 1) :
    phaseDelay after s = ((s.setSleepIn n).logEvent (.sleep tSettle)).setPh after := by
  simpa [h] using phaseDelay_cases after s

/-- Settles O33: both delays are one phase, with the same T_SETTLE, that goes on to different phases. -/
theorem settleDelayPhases : Obligations.SettleDelayPhases := by
  refine ⟨Nat.succ_pos _, fun s n hsleep => ⟨fun hph => ?_, fun hph => ?_⟩⟩
  · rw [step_of_wDly1 hph, phaseDelay_of_sleepIn .wSum hsleep]
    rfl
  · rw [step_of_wDly2 hph, phaseDelay_of_sleepIn .wStat hsleep]
    rfl

/-! ### The phases that read (R147, R151) -/

/-- XMFAIL, bit 15 of a status word, as a number (R160). -/
theorem getLsbD_15_iff (w : Half) : w.getLsbD 15 = true ↔ 32768 ≤ w.toNat := by
  rw [← BitVec.msb_eq_getLsbD_last, BitVec.msb_eq_decide, decide_eq_true_eq]

theorem phaseWStat_of_ok {s : State} {data : Bytes 2} {rest : List (TrAnswer 2)}
    (h : s.statusIn = .ok data :: rest) :
    phaseWStat s = (((s.setStatusIn rest).logEvent (.tr Config.regControl [] 2 (.ok data))).setStat
      (statusOf data)).leaveBody (if 32768 ≤ (statusOf data).toNat then .writeRejected else .ok) := by
  have hcases := phaseWStat_cases s
  simp only [h, statusWord_eq_statusOf, getLsbD_15_iff] at hcases
  simpa using hcases

theorem phaseWStat_of_ioError {s : State} {rest : List (TrAnswer 2)} (h : s.statusIn = .ioError :: rest) :
    phaseWStat s =
      ((s.setStatusIn rest).logEvent (.tr Config.regControl [] 2 .ioError)).leaveBody .ioError := by
  simpa [h] using phaseWStat_cases s

theorem phaseRFrame_of_ok {s : State} {data : Bytes 36} {rest : List (TrAnswer 36)}
    (h : s.frameIn = .ok data :: rest) :
    phaseRFrame s = (((s.setFrameIn rest).logEvent
      (.tr Config.regMac [] 36 (.ok data))).loadBuf data).setPh .rVal := by
  simpa [h] using phaseRFrame_cases s

theorem phaseRFrame_of_ioError {s : State} {rest : List (TrAnswer 36)} (h : s.frameIn = .ioError :: rest) :
    phaseRFrame s =
      ((s.setFrameIn rest).logEvent (.tr Config.regMac [] 36 .ioError)).leaveBody .ioError := by
  simpa [h] using phaseRFrame_cases s

/-- Settles O35: bit 15 of the word read is its comparison with 0x8000, and it alone chooses the code. -/
theorem writeStatusPhase : Obligations.WriteStatusPhase := by
  intro s rest data hph
  refine ⟨fun hok => ?_, fun herr => ?_⟩
  · rw [step_of_wStat hph, phaseWStat_of_ok hok, State.leaveBody_eq, apply_ite ResultKind.code]
    rfl
  · rw [step_of_wStat hph, phaseWStat_of_ioError herr, State.leaveBody_eq]
    rfl

/-- Each byte of a loaded frame, as the frame's list gives it. -/
theorem State.loadBuf_some_bufByte (s : State) (data : Bytes 36) {i : Nat} (h : i < 36) :
    some ((s.loadBuf data).bufByte i) = data.bytes[i]? := by
  have hi : i < data.bytes.length := by rwa [data.length_eq]
  rw [State.loadBuf_bufByte s data i h, List.getD_eq_getElem _ _ hi, List.getElem?_eq_getElem hi]

/-- Settles O37: the answer's 36 bytes are loaded as one canonical buffer; an IoError loads none. -/
theorem readFramePhase : Obligations.ReadFramePhase := by
  intro s rest data hph
  refine ⟨fun hok => ?_, fun herr => ?_⟩
  · refine ⟨_, step_of_rFrame hph, ?_⟩
    rw [phaseRFrame_of_ok hok]
    refine ⟨?_, fun i hi => ?_, ?_⟩
    · simpa using bufWf_cellsOf data
    · simpa using State.loadBuf_some_bufByte _ data hi
    · simp only [State.setPh, State.loadBuf, State.setBuf, State.logEvent, State.setHistory,
        State.setFrameIn]
  · rw [step_of_rFrame hph, phaseRFrame_of_ioError herr, State.leaveBody_eq]
    rfl

/-! ### The validation of the frame read (R152) -/

/-- The phase leaves the body with the validation's result and in the state the validation left. -/
theorem step_of_rVal_of_validate {s t : State} {k : ResultKind} (hph : s.ph = .rVal)
    (hval : s.validate = (k, t)) : step s = .next (t.leaveBody k) := by
  rw [step_of_rVal hph, phaseRVal, hval]

theorem State.setLenbad_true_eq (s : State) :
    s.setLenbad true = { s with flags := s.flags ||| 2#2 } := by
  rw [State.setLenbad, State.flagsOf_true_flagM, State.setFlags]

/-- Settles O38: one end of the validation for each clause. -/
theorem readValidationPhase : Obligations.ReadValidationPhase := by
  intro s hph
  refine ⟨fun hecho => ?_, fun hecho hlen => ?_, fun hecho hlen hsum => ?_, fun hecho hlen hsum => ?_⟩
  · rw [step_of_rVal_of_validate hph (State.validate_of_not_echoOk hecho), State.leaveBody_eq,
      ResultKind.code]
  · rw [step_of_rVal_of_validate hph (State.validate_of_not_lengthOk hecho hlen), State.setLenbad_true_eq,
      State.leaveBody_eq, ResultKind.code]
  · rw [step_of_rVal_of_validate hph (State.validate_of_frameSum_ne hecho hlen hsum), State.leaveBody_eq,
      State.setCsum, ResultKind.code]
  · rw [step_of_rVal_of_validate hph (State.validate_of_frameSum_eq hecho hlen hsum), State.leaveBody_eq,
      State.setRlen, State.setCsum, ResultKind.code]

/-! ### The restoration (R155) -/

/-- The whole state the end of a transfer leaves: the body's failure comes before the restoration's. -/
theorem State.finishTransfer_eq (s : State) :
    s.finishTransfer = { s with res := if s.e = 0x00#8 then s.rerr else s.e, ph := .idle } := by
  rw [State.finishTransfer, ite_not]
  rfl

theorem phaseXRest_of_not_chg {s : State} (h : s.chg = false) : phaseXRest s = s.finishTransfer := by
  simpa [h] using phaseXRest_cases s

theorem phaseXRest_of_ok {s : State} {rest : List SecAnswer} (hchg : s.chg = true)
    (h : s.secIn = .ok :: rest) :
    phaseXRest s = ((((s.setSecIn rest).logEvent (.secreq s.orig .ok)).setSecmode s.orig).setRerr
      0x00#8).finishTransfer := by
  simpa [hchg, h] using phaseXRest_cases s

theorem phaseXRest_of_err {s : State} {c : ErrCode} {rest : List SecAnswer} (hchg : s.chg = true)
    (h : s.secIn = .err c :: rest) :
    phaseXRest s =
      (((s.setSecIn rest).logEvent (.secreq s.orig (.err c))).setRerr c.code).finishTransfer := by
  simpa [hchg, h] using phaseXRest_cases s

/-- The whole state a restoring request that got an ok leaves, before the end of the transfer. -/
theorem State.logEvent_setSecmode_setRerr_eq (s : State) (rest : List SecAnswer) (ev : Event) (m : SecMode)
    (c : Byte) :
    (((s.setSecIn rest).logEvent ev).setSecmode m).setRerr c =
      { s with secIn := rest, history := s.history ++ [ev], secmode := m, rerr := c } := by
  simp only [State.setRerr, State.setSecmode, State.logEvent, State.setHistory, State.setSecIn]

/-- The whole state a restoring request that got an error leaves, before the end of the transfer. -/
theorem State.logEvent_setRerr_eq (s : State) (rest : List SecAnswer) (ev : Event) (c : Byte) :
    ((s.setSecIn rest).logEvent ev).setRerr c =
      { s with secIn := rest, history := s.history ++ [ev], rerr := c } := by
  simp only [State.setRerr, State.logEvent, State.setHistory, State.setSecIn]

/-- Settles O39: with an unchanged mode the transfer just ends; otherwise the answer to the restoring request
writes SECMODE and RERR before the end reads RERR. -/
theorem restorationPhase : Obligations.RestorationPhase := by
  intro s rest answer hph
  refine ⟨fun hchg => ?_, fun hchg hans => ?_⟩
  · rw [step_of_xRest hph, phaseXRest_of_not_chg hchg, State.finishTransfer_eq]
  · rw [step_of_xRest hph]
    cases answer with
    | ok =>
      rw [phaseXRest_of_ok hchg hans, State.logEvent_setSecmode_setRerr_eq, State.finishTransfer_eq,
        SecAnswer.restoreCode]
    | err c =>
      rw [phaseXRest_of_err hchg hans, State.logEvent_setRerr_eq, State.finishTransfer_eq,
        SecAnswer.restoreCode]

end Sys2Proof.Machine
end

section
/-! The status commands (R161 to R164): the numbers of their words, one equation per case of each command, and
the whole state each leaves. -/

namespace Sys2Proof

/-! ### The command words in numbers (R90, R93) -/

theorem encode_stget_toNat : (encode .stget).toNat = 0x30000000 := pack_zero_imm_toNat 0x30#8 0#8

theorem encode_stdec_toNat (imm : Half) : (encode (.stdec imm)).toNat = 0x31000000 + imm.toNat :=
  pack_zero_operand_toNat 0x31#8 imm

theorem encode_sttest_toNat (imm : Half) : (encode (.sttest imm)).toNat = 0x32000000 + imm.toNat :=
  pack_zero_operand_toNat 0x32#8 imm

theorem encode_stseed_toNat : (encode .stseed).toNat = 0x33000000 := pack_zero_imm_toNat 0x33#8 0#8

end Sys2Proof

namespace Sys2Proof.Machine

/-! ### STGET (R161) -/

/-- An answered status read takes the oldest answer and logs the event with it (R69, R73). -/
theorem State.askStatus_of_answer {s : State} {ans : TrAnswer 2} {rest : List (TrAnswer 2)}
    (h : s.statusIn = ans :: rest) :
    s.askStatus =
      some (ans, (s.setStatusIn rest).logEvent (.tr Config.regControl [] 2 ans)) :=
  (s.askStatus_some_iff _ ans).mpr ⟨rest, h, rfl⟩

theorem exec_stget_of_ok {s : State} {data : Bytes 2} {rest : List (TrAnswer 2)}
    (h : s.statusIn = .ok data :: rest) :
    exec .stget s = .next (((s.setStatusIn rest).logEvent
      (.tr Config.regControl [] 2 (.ok data))).setStat (statusOf data)).succeed := by
  simp only [exec, execStget, State.askStatus_of_answer h, statusWord_eq_statusOf]

theorem exec_stget_of_ioError {s : State} {rest : List (TrAnswer 2)} (h : s.statusIn = .ioError :: rest) :
    exec .stget s = .next (((s.setStatusIn rest).logEvent
      (.tr Config.regControl [] 2 .ioError)).raise .ioError) := by
  simp only [exec, execStget, State.askStatus_of_answer h]

/-- The whole state an event of the status read leaves, before the command's own writes. -/
theorem State.setStatusIn_logEvent_eq (s : State) (rest : List (TrAnswer 2)) (ev : Event) :
    (s.setStatusIn rest).logEvent ev = { s with statusIn := rest, history := s.history ++ [ev] } := rfl

/-- Settles O45: one case for each answer; both take it and log the event, and only the bytes reach STAT. -/
theorem stgetReadsTheStatus : Obligations.StgetReadsTheStatus := by
  refine ⟨encode_stget_toNat, fun s rest data => ⟨fun hok => ?_, fun herr => ?_⟩⟩
  · rw [exec_stget_of_ok hok, State.setStatusIn_logEvent_eq, State.succeed_eq, State.setStat]
  · rw [exec_stget_of_ioError herr, State.setStatusIn_logEvent_eq, State.raise_eq, ResultKind.code]

/-! ### STDEC (R162) -/

theorem exec_stdec (imm : Half) (s : State) : exec (.stdec imm) s = .next (s.setStat imm).succeed := rfl

/-- Settles O46: STAT's update, whatever the value, then the ordinary end of a command. -/
theorem stdecLoadsTheDecoder : Obligations.StdecLoadsTheDecoder :=
  ⟨encode_stdec_toNat, fun imm s => by rw [exec_stdec, State.succeed_eq, State.setStat]⟩

/-! ### STTEST (R163) -/

theorem exec_sttest (imm : Half) (s : State) :
    exec (.sttest imm) s = .next (s.setM (s.statusMatches imm)).succeed := rfl

/-- FLAGS with M written: LENBAD's bit as it was, M's bit anew (R32). -/
theorem State.flagsOf_flagLenbad (s : State) (m : Bool) :
    flagsOf s.flagLenbad m = (s.flags &&& 2#2) ||| (if m = true then 1#2 else 0#2) := by
  have h : ∀ (f : BitVec 2) (b : Bool),
      flagsOf (f.getLsbD 1) b = (f &&& 2#2) ||| (if b = true then 1#2 else 0#2) := by decide
  exact h _ _

/-- The whole state a write of M leaves. -/
theorem State.setM_eq (s : State) (m : Bool) :
    s.setM m = { s with flags := (s.flags &&& 2#2) ||| (if m = true then 1#2 else 0#2) } := by
  rw [State.setM, State.flagsOf_flagLenbad, State.setFlags]

theorem State.statusMatches_iff (s : State) (imm : Half) :
    s.statusMatches imm = true ↔ s.stat &&& s.mask = imm := decide_eq_true_iff

/-- Settles O47: M is written with the masked compare's answer, and the write of M keeps LENBAD's bit. -/
theorem sttestComparesUnderTheMask : Obligations.SttestComparesUnderTheMask := by
  refine ⟨encode_sttest_toNat, fun imm s => ?_⟩
  rw [exec_sttest, State.setM_eq, State.succeed_eq]
  simp only [State.statusMatches_iff]

/-! ### STSEED (R164) -/

theorem exec_stseed (s : State) : exec .stseed s = .next (s.seed s.secdec) := rfl

/-- The field SEC of the status word, bits 14:13, as a number (R160). -/
theorem State.statSec_eq (s : State) : s.statSec = BitVec.ofNat 2 (s.stat.toNat / 8192 % 4) := by
  apply BitVec.eq_of_toNat_eq
  rw [State.statSec, BitVec.extractLsb'_toNat, BitVec.toNat_ofNat, Nat.shiftRight_eq_div_pow]
  exact (Nat.mod_mod _ 4).symm

/-- The whole state a seeding leaves: Unknown is written like any other mode, and only RES tells (R164). -/
theorem State.seed_eq (s : State) (m : SecMode) :
    s.seed m = { s with secmode := m, res := if m = .unknown then 0x03#8 else 0x00#8,
                        hostWords := s.hostWords.tail } := by
  rw [State.seed]
  split
  · rw [State.raise_eq, State.setSecmode, ResultKind.code]
  · rw [State.succeed_eq, State.setSecmode]

/-- Settles O48: the seeding mode is SEC_DECODE of the field SEC, whichever function SEC_DECODE is. -/
theorem stseedSeedsTheMode : Obligations.StseedSeedsTheMode :=
  ⟨encode_stseed_toNat, fun s => by rw [exec_stseed, State.seed_eq, State.secdec, State.statSec_eq]⟩

end Sys2Proof.Machine
end

section
/-! The encoding (R90 to R95): a word is selected by a row of the opcode map exactly if it decodes, to that row's
command, and the command's word is then the word itself. -/

namespace Sys2Proof

/-! ### The row that selects a word -/

/-- The row that selects a word is the one the decoder finds: no other has its opcode (R93). -/
theorem find?_of_selects {r : CommandRow} {w : Word} (hr : r ∈ commandTable)
    (h : w &&& r.format.mask = r.pattern) :
    commandTable.find? (fun r => decide (r.op = opField w)) = some r := by
  have hop := CommandRow.op_eq_of_selects h
  obtain ⟨r', hr'⟩ : ∃ r', commandTable.find? (fun r => decide (r.op = opField w)) = some r' :=
    Option.isSome_iff_exists.mp (List.find?_isSome.mpr ⟨r, hr, decide_eq_true hop⟩)
  have hop' : r'.op = opField w := of_decide_eq_true (List.find?_some hr' :)
  rw [hr', List.inj_on_of_nodup_map nodup_commandTable_op (List.mem_of_find?_eq_some hr') hr
    (hop'.trans hop.symm)]

/-- A word that a row of the opcode map selects decodes to the row's command (R93). -/
theorem decode_of_selects {r : CommandRow} {w : Word} (hr : r ∈ commandTable)
    (h : w &&& r.format.mask = r.pattern) : decode w = .ok (r.command w) :=
  decode_of_row (find?_of_selects hr h) h

/-! ### Decoding an encoded command -/

/-- The word of every command lies in the command's row (R91). -/
theorem encodedInRow (i : Instr) : Laws.EncodedInRow.Statement i := by
  cases i with
  | nop => exact Laws.EncodedInRow.nop
  | setaddr imm => exact Laws.EncodedInRow.setaddr imm
  | setlen a => exact Laws.EncodedInRow.setlen a
  | setmask imm => exact Laws.EncodedInRow.setmask imm
  | setmode a => exact Laws.EncodedInRow.setmode a
  | bufwr a imm => exact Laws.EncodedInRow.bufwr a imm
  | bufrd a => exact Laws.EncodedInRow.bufrd a
  | ckclr => exact Laws.EncodedInRow.ckclr
  | ckadd imm => exact Laws.EncodedInRow.ckadd imm
  | ckfin => exact Laws.EncodedInRow.ckfin
  | ckbuf a => exact Laws.EncodedInRow.ckbuf a
  | xmcomp => exact Laws.EncodedInRow.xmcomp
  | xmval => exact Laws.EncodedInRow.xmval
  | xmwrite => exact Laws.EncodedInRow.xmwrite
  | xmread => exact Laws.EncodedInRow.xmread
  | stget => exact Laws.EncodedInRow.stget
  | stdec imm => exact Laws.EncodedInRow.stdec imm
  | sttest imm => exact Laws.EncodedInRow.sttest imm
  | stseed => exact Laws.EncodedInRow.stseed

/-- A command whose operands its row reads back from the command's word is decoded from that word. -/
theorem decode_encode_of_row {i : Instr} {r : CommandRow} (hr : r ∈ commandTable)
    (hrow : (r.format, r.pattern) = Laws.rowOf i) (hcommand : r.command (encode i) = i) :
    decode (encode i) = .ok i := by
  have hsel : encode i &&& r.format.mask = r.pattern := by
    have h := encodedInRow i
    rwa [Laws.EncodedInRow.Statement, ← hrow] at h
  rw [decode_of_selects hr hsel, hcommand]

/-- A byte survives its extension to the 16-bit immediate field. -/
theorem imm8Field_pack_byte (op a imm : Byte) : imm8Field (pack op a (imm.setWidth 16)) = imm := by
  rw [imm8Field_pack, BitVec.setWidth_setWidth_of_le _ (by decide), BitVec.setWidth_eq]

/-- No operand bit of any encoding is dropped (R90 to R93). -/
theorem decode_encode (i : Instr) : decode (encode i) = .ok i := by
  cases i with
  | nop => exact decode_encode_of_row (r := commandTable[0]) (List.getElem_mem _) rfl rfl
  | setaddr imm =>
    exact decode_encode_of_row (r := commandTable[1]) (List.getElem_mem _) rfl
      (congrArg Instr.setaddr (immField_pack 0x01#8 0#8 imm))
  | setlen a =>
    exact decode_encode_of_row (r := commandTable[2]) (List.getElem_mem _) rfl
      (congrArg Instr.setlen (aField_pack 0x02#8 a 0#16))
  | setmask imm =>
    exact decode_encode_of_row (r := commandTable[3]) (List.getElem_mem _) rfl
      (congrArg Instr.setmask (immField_pack 0x03#8 0#8 imm))
  | setmode a =>
    exact decode_encode_of_row (r := commandTable[4]) (List.getElem_mem _) rfl
      (congrArg Instr.setmode (aField_pack 0x04#8 a 0#16))
  | bufwr a imm =>
    exact decode_encode_of_row (r := commandTable[5]) (List.getElem_mem _) rfl
      (congrArg₂ Instr.bufwr (aField_pack 0x08#8 a _) (imm8Field_pack_byte 0x08#8 a imm))
  | bufrd a =>
    exact decode_encode_of_row (r := commandTable[6]) (List.getElem_mem _) rfl
      (congrArg Instr.bufrd (aField_pack 0x09#8 a 0#16))
  | ckclr => exact decode_encode_of_row (r := commandTable[7]) (List.getElem_mem _) rfl rfl
  | ckadd imm =>
    exact decode_encode_of_row (r := commandTable[8]) (List.getElem_mem _) rfl
      (congrArg Instr.ckadd (imm8Field_pack_byte 0x11#8 0#8 imm))
  | ckfin => exact decode_encode_of_row (r := commandTable[9]) (List.getElem_mem _) rfl rfl
  | ckbuf a =>
    exact decode_encode_of_row (r := commandTable[10]) (List.getElem_mem _) rfl
      (congrArg Instr.ckbuf (aField_pack 0x13#8 a 0#16))
  | xmcomp => exact decode_encode_of_row (r := commandTable[11]) (List.getElem_mem _) rfl rfl
  | xmval => exact decode_encode_of_row (r := commandTable[12]) (List.getElem_mem _) rfl rfl
  | xmwrite => exact decode_encode_of_row (r := commandTable[13]) (List.getElem_mem _) rfl rfl
  | xmread => exact decode_encode_of_row (r := commandTable[14]) (List.getElem_mem _) rfl rfl
  | stget => exact decode_encode_of_row (r := commandTable[15]) (List.getElem_mem _) rfl rfl
  | stdec imm =>
    exact decode_encode_of_row (r := commandTable[16]) (List.getElem_mem _) rfl
      (congrArg Instr.stdec (immField_pack 0x31#8 0#8 imm))
  | sttest imm =>
    exact decode_encode_of_row (r := commandTable[17]) (List.getElem_mem _) rfl
      (congrArg Instr.sttest (immField_pack 0x32#8 0#8 imm))
  | stseed => exact decode_encode_of_row (r := commandTable[18]) (List.getElem_mem _) rfl rfl

/-- Settles O1: every command lies in its row, and the row reads the operands back from their fields. -/
theorem decodeAfterEncodeIsIdentity : Obligations.DecodeAfterEncodeIsIdentity :=
  fun i _ => decode_encode i

/-! ### Encoding a decoded command -/

/-- The operand fields of a selected word are zero where its row's format requires it (R91). -/
theorem fields_of_selects {r : CommandRow} {w : Word} (h : w &&& r.format.mask = r.pattern) :
    aField w &&& aField r.format.mask = 0#8 ∧ immField w &&& immField r.format.mask = 0#16 := by
  rw [← aField_and, ← immField_and, h, CommandRow.pattern, aField_pack, immField_pack]
  exact ⟨rfl, rfl⟩

/-- An immediate with a zero high byte is its low byte extended (the formats B and AB, R91). -/
theorem setWidth_imm8Field {w : Word} (h : immField w &&& 0xFF00#16 = 0#16) :
    (imm8Field w).setWidth 16 = immField w := by
  apply BitVec.eq_of_getLsbD_eq
  intro k hk
  by_cases hlow : k < 8
  · simp [imm8Field, immField, hk, hlow]
  · have hmask : (0xFF00#16).getLsbD k = true := by
      interval_cases k <;> rfl
    have hbit := congrArg (·.getLsbD k) h
    simp only [BitVec.getLsbD_and, hmask, Bool.and_true, BitVec.getLsbD_zero] at hbit
    rw [hbit, BitVec.getLsbD_setWidth, BitVec.getLsbD_of_ge _ _ (Nat.le_of_not_lt hlow), Bool.and_false]

/-- The word of an opcode with the operand fields of `w` that the format uses, every other field zero (R91). -/
def Format.packFields : Format → Byte → Word → Word
  | .z, op, _ => pack op 0#8 0#16
  | .a, op, w => pack op (aField w) 0#16
  | .i, op, w => pack op 0#8 (immField w)
  | .b, op, w => pack op 0#8 ((imm8Field w).setWidth 16)
  | .ab, op, w => pack op (aField w) ((imm8Field w).setWidth 16)

/-- The encoder packs the fields that the command's row reads (R93). -/
theorem encode_command {r : CommandRow} (hr : r ∈ commandTable) (w : Word) :
    encode (r.command w) = r.format.packFields r.op w := by
  revert r
  simp [commandTable, encode, Format.packFields]

/-- A selected word has no bit outside its row's opcode and the operand fields of its row's format. -/
theorem packFields_of_selects {r : CommandRow} {w : Word} (h : w &&& r.format.mask = r.pattern) :
    r.format.packFields r.op w = w := by
  obtain ⟨ha, himm⟩ := fields_of_selects h
  have hpack : pack r.op (aField w) (immField w) = w := by
    rw [CommandRow.op_eq_of_selects h, pack_fields]
  have hzero {n : Nat} {x : BitVec n} (hx : x &&& BitVec.allOnes n = 0#n) : x = 0#n := by
    rwa [BitVec.and_allOnes] at hx
  generalize r.format = f at ha himm ⊢
  cases f with
  | z => rwa [hzero ha, hzero himm] at hpack
  | a => rwa [hzero himm] at hpack
  | i => rwa [hzero ha] at hpack
  | b => rwa [hzero ha, ← setWidth_imm8Field himm] at hpack
  | ab => rwa [← setWidth_imm8Field himm] at hpack

/-- What decodes to a command is the command's word. -/
theorem encode_of_decode {w : Word} {i : Instr} (h : decode w = .ok i) : encode i = w := by
  obtain ⟨r, hr, -, hsel, rfl⟩ := decode_ok_row h
  rw [encode_command hr, packFields_of_selects hsel]

theorem decode_eq_ok_iff (w : Word) (i : Instr) : decode w = .ok i ↔ encode i = w :=
  ⟨encode_of_decode, fun h => h ▸ decode_encode i⟩

/-- The opcode table's masks tell the words of commands from illegal words (R94). -/
theorem Machine.exists_row_iff_decodes (w : Word) :
    (∃ row ∈ Machine.commandRows, w &&& row.1 = row.2) ↔ ∃ i, decode w = .ok i := by
  rw [Machine.commandRows_eq_map]
  constructor
  · rintro ⟨row, hrow, hsel⟩
    obtain ⟨r, hr, rfl⟩ := List.mem_map.mp hrow
    exact ⟨_, decode_of_selects hr hsel⟩
  · rintro ⟨i, hi⟩
    obtain ⟨r, hr, -, hsel, -⟩ := decode_ok_row hi
    exact ⟨_, List.mem_map_of_mem hr, hsel⟩

/-- Settles O2: the decoder follows the masks, and encoding inverts it in both directions. -/
theorem everyWordIsOneCommandOrIllegal : Obligations.EveryWordIsOneCommandOrIllegal :=
  fun w => ⟨Machine.exists_row_iff_decodes w, decode_eq_ok_iff w⟩

/-- Settles O3: the six words are those that the encoder packs for their commands; of the other two, one
has an opcode without a row, and one sets a bit that the format B requires to be zero. -/
theorem sampleWordsDecode : Obligations.SampleWordsDecode :=
  ⟨decode_encode (.setaddr 0x41FE#16), decode_encode (.bufwr 2#8 0x07#8), decode_encode (.ckadd 0x34#8),
    decode_encode .xmwrite, decode_encode (.sttest 0xFFFF#16), decode_encode (.ckbuf 37#8), by decide,
    by decide⟩

end Sys2Proof
end

section
/-! Everything one step can do, said once: what the command at the ready port can make of the state (R110), and
what a phase of a transfer can (R140). Every rule about the whole machine is a case analysis on these. -/

namespace Sys2Proof.Machine

/-! ### The entry of a transfer, and STGET without its answer (R141, R161) -/

theorem exec_xmwrite (s : State) : exec .xmwrite s = .next (s.enterTransfer .wSec .wFrame) := rfl

theorem exec_xmread (s : State) : exec .xmread s = .next (s.clearResult.enterTransfer .rSec .rAddr) := rfl

/-- Without its answer STGET leaves its word at the port and everything else as it is (assumption 4). -/
theorem exec_stget_of_nil {s : State} (h : s.statusIn = []) : exec .stget s = .next s := by
  simp only [exec, execStget, s.askStatus_none_iff.mpr h]

@[simp] theorem State.clearResult_argsInRange (s : State) : s.clearResult.argsInRange ↔ s.argsInRange := Iff.rfl

/-- STSEED writes SECMODE, and its end tells Unknown from the other modes (R164). -/
theorem exec_stseed_eq_endCommand (s : State) : exec .stseed s = .next
    ((s.setSecmode s.secdec).endCommand (if s.secdec = .unknown then .securityUnknown else .ok)) := by
  rw [exec_stseed, State.seed]
  split <;> rfl

/-! ### What a command can do -/

/-- What the command `i`, accepted in `s`, can leave (R111 to R164). -/
inductive CommandEffect (s : State) : Instr → State → Prop
  /-- Only RES is written: NOP, and every rejection that writes nothing before it. -/
  | ends (i : Instr) (k : ResultKind) (hk : k ∈ [.ok, .invalidArgument, .securityUnknown]) :
      CommandEffect s i (s.endCommand k)
  | setaddr (imm : Half) : CommandEffect s (.setaddr imm) (s.setAddr imm).succeed
  | setlen (a : Byte) : CommandEffect s (.setlen a) (s.setLen a).succeed
  | setmask (imm : Half) : CommandEffect s (.setmask imm) (s.setMask imm).succeed
  | setmode (a : Byte) (m : SecMode) (hm : modeOfOperand a = some m) :
      CommandEffect s (.setmode a) (s.setSecmode m).succeed
  | bufwr (a imm : Byte) (ha : a.toNat ≤ 35) :
      CommandEffect s (.bufwr a imm) (s.setBufByte a.toNat imm).succeed
  | bufrd (a : Byte) : CommandEffect s (.bufrd a) (s.setOut ((s.bufByte a.toNat).setWidth 16)).succeed
  | ckclr : CommandEffect s .ckclr (s.setAcc 0x00#8).succeed
  | ckadd (imm : Byte) : CommandEffect s (.ckadd imm) (s.setAcc (s.acc + imm)).succeed
  | ckfin : CommandEffect s .ckfin (s.deliver (0xFF#8 - s.acc)).succeed
  | ckbuf (a : Byte) : CommandEffect s (.ckbuf a) (s.deliver (checksum (s.bufBytes a.toNat))).succeed
  | xmcomp (hargs : s.argsInRange) : CommandEffect s .xmcomp s.stampAddress.stampTrailer.succeed
  | xmvalRejects : CommandEffect s .xmval (s.clearResult.raise .invalidArgument)
  | xmval (hargs : s.argsInRange) :
      CommandEffect s .xmval (s.clearResult.validate.2.endCommand s.clearResult.validate.1)
  | xmwrite (hargs : s.argsInRange) (hmode : s.secmode ≠ .unknown) : CommandEffect s .xmwrite
      (s.accept.beginTransfer.setPh (if s.secmode = .sealed then .wSec else .wFrame))
  | xmreadRejects (k : ResultKind) (hk : k ∈ [.invalidArgument, .securityUnknown]) :
      CommandEffect s .xmread (s.clearResult.raise k)
  | xmread (hargs : s.argsInRange) (hmode : s.secmode ≠ .unknown) : CommandEffect s .xmread
      (s.clearResult.accept.beginTransfer.setPh (if s.secmode = .sealed then .rSec else .rAddr))
  | stgetWaits (hans : s.statusIn = []) : CommandEffect s .stget s
  | stget (data : Bytes 2) (rest : List (TrAnswer 2)) (hans : s.statusIn = .ok data :: rest) :
      CommandEffect s .stget (((s.setStatusIn rest).logEvent
        (.tr Config.regControl [] 2 (.ok data))).setStat (statusOf data)).succeed
  | stgetFails (rest : List (TrAnswer 2)) (hans : s.statusIn = .ioError :: rest) :
      CommandEffect s .stget
        (((s.setStatusIn rest).logEvent (.tr Config.regControl [] 2 .ioError)).raise .ioError)
  | stdec (imm : Half) : CommandEffect s (.stdec imm) (s.setStat imm).succeed
  | sttest (imm : Half) : CommandEffect s (.sttest imm) (s.setM (s.statusMatches imm)).succeed
  | stseed : CommandEffect s .stseed
      ((s.setSecmode s.secdec).endCommand (if s.secdec = .unknown then .securityUnknown else .ok))

/-- XMWRITE is rejected, or it enters its first phase (R141). -/
theorem commandEffect_xmwrite (s : State) : CommandEffect s .xmwrite (s.enterTransfer .wSec .wFrame) := by
  rcases s.enterTransfer_cases .wSec .wFrame with ⟨-, h⟩ | ⟨-, -, h⟩ | ⟨hargs, hmode, h⟩ <;> rw [h]
  · exact .ends _ _ (by simp)
  · exact .ends _ _ (by simp)
  · exact .xmwrite (s.argsOk_iff_argsInRange.mp hargs) hmode

/-- XMREAD clears RLEN and LENBAD, and is then rejected or enters its first phase (R141). -/
theorem commandEffect_xmread (s : State) :
    CommandEffect s .xmread (s.clearResult.enterTransfer .rSec .rAddr) := by
  rcases s.clearResult.enterTransfer_cases .rSec .rAddr with ⟨-, h⟩ | ⟨-, -, h⟩ | ⟨hargs, hmode, h⟩ <;>
    rw [h]
  · exact .xmreadRejects _ (by simp)
  · exact .xmreadRejects _ (by simp)
  · exact .xmread (s.argsOk_iff_argsInRange.mp hargs) hmode

/-- Every command answers a next state, and one of those `CommandEffect` lists (R10). -/
theorem exec_effect (i : Instr) (s : State) : ∃ t, exec i s = .next t ∧ CommandEffect s i t := by
  cases i with
  | nop => exact ⟨_, exec_nop s, .ends _ _ (by simp)⟩
  | setaddr imm => exact ⟨_, exec_setaddr imm s, .setaddr imm⟩
  | setlen a => exact ⟨_, exec_setlen a s, .setlen a⟩
  | setmask imm => exact ⟨_, exec_setmask imm s, .setmask imm⟩
  | setmode a =>
    rcases hm : modeOfOperand a with _ | m
    · exact ⟨_, exec_setmode_of_none s hm, .ends _ _ (by simp)⟩
    · exact ⟨_, exec_setmode_of_some s hm, .setmode a m hm⟩
  | bufwr a imm =>
    rcases Nat.lt_or_ge 35 a.toNat with ha | ha
    · exact ⟨_, exec_bufwr_of_gt imm s ha, .ends _ _ (by simp)⟩
    · exact ⟨_, exec_bufwr_of_le imm s ha, .bufwr a imm ha⟩
  | bufrd a =>
    rcases Nat.lt_or_ge 35 a.toNat with ha | ha
    · exact ⟨_, exec_bufrd_of_gt s ha, .ends _ _ (by simp)⟩
    · exact ⟨_, exec_bufrd_of_le s ha, .bufrd a⟩
  | ckclr => exact ⟨_, exec_ckclr s, .ckclr⟩
  | ckadd imm => exact ⟨_, exec_ckadd imm s, .ckadd imm⟩
  | ckfin => exact ⟨_, exec_ckfin s, .ckfin⟩
  | ckbuf a =>
    rcases Nat.lt_or_ge 36 a.toNat with ha | ha
    · exact ⟨_, exec_ckbuf_of_gt s ha, .ends _ _ (by simp)⟩
    · exact ⟨_, exec_ckbuf_of_le s ha, .ckbuf a⟩
  | xmcomp =>
    by_cases hargs : s.argsInRange
    · exact ⟨_, exec_xmcomp_of_argsInRange hargs, .xmcomp hargs⟩
    · exact ⟨_, exec_xmcomp_of_not_argsInRange hargs, .ends _ _ (by simp)⟩
  | xmval =>
    by_cases hargs : s.argsInRange
    · exact ⟨_, exec_xmval_of_validate hargs rfl, .xmval hargs⟩
    · exact ⟨_, exec_xmval_of_not_argsInRange hargs, .xmvalRejects⟩
  | xmwrite => exact ⟨_, exec_xmwrite s, commandEffect_xmwrite s⟩
  | xmread => exact ⟨_, exec_xmread s, commandEffect_xmread s⟩
  | stget =>
    rcases hans : s.statusIn with _ | ⟨_ | _, rest⟩
    · exact ⟨_, exec_stget_of_nil hans, .stgetWaits hans⟩
    · exact ⟨_, exec_stget_of_ok hans, .stget _ rest hans⟩
    · exact ⟨_, exec_stget_of_ioError hans, .stgetFails rest hans⟩
  | stdec imm => exact ⟨_, exec_stdec imm s, .stdec imm⟩
  | sttest imm => exact ⟨_, exec_sttest imm s, .sttest imm⟩
  | stseed => exact ⟨_, exec_stseed_eq_endCommand s, .stseed⟩

/-! ### What a phase can do -/

/-- What the phase PH names can leave (R142 to R155). -/
inductive PhaseEffect (s : State) : State → Prop
  | waits (hans : s.answered = false) : PhaseEffect s s
  | unseals (body : Phase) (rest : List SecAnswer)
      (hph : s.ph = .wSec ∧ body = .wFrame ∨ s.ph = .rSec ∧ body = .rAddr) (hans : s.secIn = .ok :: rest) :
      PhaseEffect s (((((s.setSecIn rest).logEvent
        (.secreq .unsealed .ok)).setSecmode .unsealed).setChg true).setPh body)
  | unsealFails (c : ErrCode) (rest : List SecAnswer) (hph : s.ph = .wSec ∨ s.ph = .rSec)
      (hans : s.secIn = .err c :: rest) :
      PhaseEffect s (((s.setSecIn rest).logEvent (.secreq .unsealed (.err c))).endTransfer c.code)
  | sendsHead (rest : List TwAnswer) (hph : s.ph = .wFrame) (hans : s.twIn = .ok :: rest) :
      PhaseEffect s (((s.stampAddress.setTwIn rest).logEvent
        (.tw Config.regMac s.writeHead .ok)).setPh .wDly1)
  | sendsHeadFails (rest : List TwAnswer) (hph : s.ph = .wFrame) (hans : s.twIn = .ioError :: rest) :
      PhaseEffect s (((s.stampAddress.setTwIn rest).logEvent
        (.tw Config.regMac s.writeHead .ioError)).leaveBody .ioError)
  | settles (after : Phase) (n : Nat)
      (hph : s.ph = .wDly1 ∧ after = .wSum ∨ s.ph = .wDly2 ∧ after = .wStat) (hans : s.sleepIn = n + 1) :
      PhaseEffect s (((s.setSleepIn n).logEvent (.sleep tSettle)).setPh after)
  | sendsTrailer (rest : List TwAnswer) (hph : s.ph = .wSum) (hans : s.twIn = .ok :: rest) :
      PhaseEffect s (((s.stampTrailer.setTwIn rest).logEvent
        (.tw Config.regMacSum [checksum s.frameHead, s.lengthByte] .ok)).setPh .wDly2)
  | sendsTrailerFails (rest : List TwAnswer) (hph : s.ph = .wSum) (hans : s.twIn = .ioError :: rest) :
      PhaseEffect s (((s.stampTrailer.setTwIn rest).logEvent
        (.tw Config.regMacSum [checksum s.frameHead, s.lengthByte] .ioError)).leaveBody .ioError)
  | readsStatus (data : Bytes 2) (rest : List (TrAnswer 2)) (hph : s.ph = .wStat)
      (hans : s.statusIn = .ok data :: rest) :
      PhaseEffect s ((((s.setStatusIn rest).logEvent
        (.tr Config.regControl [] 2 (.ok data))).setStat (statusOf data)).leaveBody
          (if 32768 ≤ (statusOf data).toNat then .writeRejected else .ok))
  | readsStatusFails (rest : List (TrAnswer 2)) (hph : s.ph = .wStat) (hans : s.statusIn = .ioError :: rest) :
      PhaseEffect s
        (((s.setStatusIn rest).logEvent (.tr Config.regControl [] 2 .ioError)).leaveBody .ioError)
  | sendsAddress (rest : List TwAnswer) (hph : s.ph = .rAddr) (hans : s.twIn = .ok :: rest) :
      PhaseEffect s (((s.setTwIn rest).logEvent
        (.tw Config.regMac [s.lowAddr, s.highAddr] .ok)).setPh .rFrame)
  | sendsAddressFails (rest : List TwAnswer) (hph : s.ph = .rAddr) (hans : s.twIn = .ioError :: rest) :
      PhaseEffect s (((s.setTwIn rest).logEvent
        (.tw Config.regMac [s.lowAddr, s.highAddr] .ioError)).leaveBody .ioError)
  | readsFrame (data : Bytes 36) (rest : List (TrAnswer 36)) (hph : s.ph = .rFrame)
      (hans : s.frameIn = .ok data :: rest) :
      PhaseEffect s ((((s.setFrameIn rest).logEvent
        (.tr Config.regMac [] 36 (.ok data))).loadBuf data).setPh .rVal)
  | readsFrameFails (rest : List (TrAnswer 36)) (hph : s.ph = .rFrame)
      (hans : s.frameIn = .ioError :: rest) :
      PhaseEffect s (((s.setFrameIn rest).logEvent (.tr Config.regMac [] 36 .ioError)).leaveBody .ioError)
  | validates (hph : s.ph = .rVal) : PhaseEffect s (s.validate.2.leaveBody s.validate.1)
  | finishes (hph : s.ph = .xRest) (hchg : s.chg = false) :
      PhaseEffect s (s.endTransfer (if s.e = 0x00#8 then s.rerr else s.e))
  | restores (rest : List SecAnswer) (hph : s.ph = .xRest) (hchg : s.chg = true)
      (hans : s.secIn = .ok :: rest) :
      PhaseEffect s (((((s.setSecIn rest).logEvent
        (.secreq s.orig .ok)).setSecmode s.orig).setRerr 0x00#8).endTransfer
          (if s.e = 0x00#8 then 0x00#8 else s.e))
  | restoreFails (c : ErrCode) (rest : List SecAnswer) (hph : s.ph = .xRest) (hchg : s.chg = true)
      (hans : s.secIn = .err c :: rest) :
      PhaseEffect s ((((s.setSecIn rest).logEvent (.secreq s.orig (.err c))).setRerr c.code).endTransfer
        (if s.e = 0x00#8 then c.code else s.e))

/-- The unseal of a write and of a read (R142). -/
theorem phaseEffect_phaseSec {s : State} (body : Phase)
    (hph : s.ph = .wSec ∧ body = .wFrame ∨ s.ph = .rSec ∧ body = .rAddr) :
    PhaseEffect s (phaseSec body s) := by
  have hor : s.ph = .wSec ∨ s.ph = .rSec := hph.imp And.left And.left
  rcases phaseSec_cases body s with ⟨hans, h⟩ | ⟨rest, hans, h⟩ | ⟨c, rest, hans, h⟩ <;> rw [h]
  · exact .waits (by rcases hor with hp | hp <;> simp [State.answered, hp, hans])
  · exact .unseals body rest hph hans
  · exact .unsealFails c rest hor hans

/-- The two settle delays of a write (R144, R146). -/
theorem phaseEffect_phaseDelay {s : State} (after : Phase)
    (hph : s.ph = .wDly1 ∧ after = .wSum ∨ s.ph = .wDly2 ∧ after = .wStat) :
    PhaseEffect s (phaseDelay after s) := by
  rcases hans : s.sleepIn with _ | n
  · have hwait : phaseDelay after s = s := by simpa [hans] using phaseDelay_cases after s
    rw [hwait]
    exact .waits (by rcases hph with ⟨hp, -⟩ | ⟨hp, -⟩ <;> simp [State.answered, hp, hans])
  · rw [phaseDelay_of_sleepIn after hans]
    exact .settles after n hph hans

/-- Every phase of a transfer does one of the things `PhaseEffect` lists (R140). -/
theorem phaseEffect_runPhase {s : State} (hbusy : s.ph ≠ .idle) : PhaseEffect s (runPhase s) := by
  unfold runPhase
  cases hph : s.ph with
  | idle => exact absurd hph hbusy
  | wSec => exact phaseEffect_phaseSec .wFrame (.inl ⟨hph, rfl⟩)
  | wFrame =>
    rcases phaseWFrame_cases s with ⟨hans, h⟩ | ⟨rest, hans, h⟩ | ⟨rest, hans, h⟩ <;> simp only [h]
    · exact .waits (by simp [State.answered, hph, hans])
    · exact s.stampAddress_frameHead_eq ▸ .sendsHead rest hph hans
    · exact s.stampAddress_frameHead_eq ▸ .sendsHeadFails rest hph hans
  | wDly1 => exact phaseEffect_phaseDelay .wSum (.inl ⟨hph, rfl⟩)
  | wSum =>
    rcases phaseWSum_cases s with ⟨hans, h⟩ | ⟨rest, hans, h⟩ | ⟨rest, hans, h⟩ <;> simp only [h]
    · exact .waits (by simp [State.answered, hph, hans])
    · exact .sendsTrailer rest hph hans
    · exact .sendsTrailerFails rest hph hans
  | wDly2 => exact phaseEffect_phaseDelay .wStat (.inr ⟨hph, rfl⟩)
  | wStat =>
    rcases hans : s.statusIn with _ | ⟨data | _, rest⟩
    · simp only [phaseWStat, s.askStatus_none_iff.mpr hans]
      exact .waits (by simp [State.answered, hph, hans])
    · exact phaseWStat_of_ok hans ▸ .readsStatus data rest hph hans
    · exact phaseWStat_of_ioError hans ▸ .readsStatusFails rest hph hans
  | rSec => exact phaseEffect_phaseSec .rAddr (.inr ⟨hph, rfl⟩)
  | rAddr =>
    rcases hans : s.twIn with _ | ⟨_ | _, rest⟩
    · simp only [phaseRAddr, (s.askTw_none_iff _ _).mpr hans]
      exact .waits (by simp [State.answered, hph, hans])
    · exact phaseRAddr_of_answer hans ▸ .sendsAddress rest hph hans
    · exact phaseRAddr_of_answer hans ▸ .sendsAddressFails rest hph hans
  | rFrame =>
    rcases phaseRFrame_cases s with ⟨hans, h⟩ | ⟨data, rest, hans, h⟩ | ⟨rest, hans, h⟩ <;> simp only [h]
    · exact .waits (by simp [State.answered, hph, hans])
    · exact .readsFrame data rest hph hans
    · exact .readsFrameFails rest hph hans
  | rVal => exact .validates hph
  | xRest =>
    rcases phaseXRest_cases s with ⟨hchg, h⟩ | ⟨hchg, hans, h⟩ | ⟨rest, hchg, hans, h⟩ |
      ⟨c, rest, hchg, hans, h⟩ <;> simp only [h, State.finishTransfer, ite_not]
    · exact .finishes hph hchg
    · exact .waits (by simp [State.answered, hph, hchg, hans])
    · exact .restores rest hph hchg hans
    · exact .restoreFails c rest hph hchg hans

/-! ### What a step can do -/

/-- What one step can leave: a phase of the transfer in progress, nothing while the host presents nothing, a
command, or the end of an illegal word (R94, R98, R140). -/
inductive StepEffect (s : State) : State → Prop
  | phase (t : State) (hbusy : s.ph ≠ .idle) (heff : PhaseEffect s t) : StepEffect s t
  | waits (hidle : s.ph = .idle) : StepEffect s s
  | command (i : Instr) (rest : List Word) (t : State) (hi : s.presents i rest)
      (heff : CommandEffect s i t) : StepEffect s t
  | illegal (hidle : s.ph = .idle) : StepEffect s (s.raise .illegalCommand)

theorem stepEffect_of_step {s t : State} (h : step s = .next t) : StepEffect s t := by
  rcases step_cases h with ⟨hbusy, rfl⟩ | ⟨hidle, -, rfl⟩ | ⟨w, rest, i, hidle, hw, hdec, hexec⟩ |
    ⟨w, rest, err, hidle, hw, hdec, rfl⟩
  · exact .phase _ hbusy (phaseEffect_runPhase hbusy)
  · exact .waits hidle
  · obtain ⟨t', hexec', heff⟩ := exec_effect i s
    obtain rfl : t' = t := by simpa [hexec] using hexec'.symm
    exact .command i rest _ ⟨hidle, by rw [hw, encode_of_decode hdec]⟩ heff
  · exact .illegal hidle

/-! ### The step at the ready port (R98) -/

theorem step_of_idle_of_decode {s : State} {w : Word} {rest : List Word} {i : Instr} (hidle : s.ph = .idle)
    (hw : s.hostWords = w :: rest) (hdec : decode w = .ok i) : step s = exec i s := by
  simp [step, State.ready, State.presented, hidle, hw, hdec]

theorem step_of_idle_of_nil {s : State} (hidle : s.ph = .idle) (hw : s.hostWords = []) :
    step s = .next s := by
  simp [step, State.ready, State.presented, hidle, hw]

theorem step_of_presents {s : State} {i : Instr} {rest : List Word} (h : s.presents i rest) :
    step s = exec i s :=
  step_of_idle_of_decode h.1 h.2 (decode_encode i)

/-- Settles O5: the ready port's word is decoded and run, and an empty port waits. -/
theorem stepRunsTheDecodedCommand : Obligations.StepRunsTheDecodedCommand :=
  fun _ hidle => ⟨fun _ _ _ hw hdec _ => step_of_idle_of_decode hidle hw hdec, step_of_idle_of_nil hidle⟩

/-- Settles O7: a phase always leaves a state, and so does every command. -/
theorem everyStepAnswersANextState : Obligations.EveryStepAnswersANextState := by
  intro s
  by_cases hidle : s.ph = .idle
  · rcases hw : s.hostWords with _ | ⟨w, rest⟩
    · exact ⟨s, step_of_idle_of_nil hidle hw⟩
    · rcases hdec : decode w with err | i
      · exact ⟨_, step_of_decode_error hidle hw hdec⟩
      · obtain ⟨t, hexec, -⟩ := exec_effect i s
        exact ⟨t, (step_of_idle_of_decode hidle hw hdec).trans hexec⟩
  · exact ⟨_, step_of_busy hidle⟩

end Sys2Proof.Machine
end

section
/-! What one step leaves alone, and who writes what: the rules of the whole machine, each a case analysis on what
a command and a phase can do. -/

namespace Sys2Proof.Machine

/-! ### What the validation leaves alone (R134) -/

/-- VAL writes CSUM, RLEN and FLAGS and nothing else. -/
theorem State.validate_snd_eq (s : State) : s.validate.2 =
    { s with csum := s.validate.2.csum, rlen := s.validate.2.rlen, flags := s.validate.2.flags } := by
  rcases s.validate_cases with ⟨-, h⟩ | ⟨-, h⟩ | ⟨-, h⟩ | ⟨-, h⟩ <;> rw [h] <;> rfl

section validate
variable (s : State)

@[simp] theorem State.validate_addr : s.validate.2.addr = s.addr := by rw [s.validate_snd_eq]
@[simp] theorem State.validate_len : s.validate.2.len = s.len := by rw [s.validate_snd_eq]
@[simp] theorem State.validate_mask : s.validate.2.mask = s.mask := by rw [s.validate_snd_eq]
@[simp] theorem State.validate_out : s.validate.2.out = s.out := by rw [s.validate_snd_eq]
@[simp] theorem State.validate_acc : s.validate.2.acc = s.acc := by rw [s.validate_snd_eq]
@[simp] theorem State.validate_stat : s.validate.2.stat = s.stat := by rw [s.validate_snd_eq]
@[simp] theorem State.validate_secmode : s.validate.2.secmode = s.secmode := by rw [s.validate_snd_eq]
@[simp] theorem State.validate_res : s.validate.2.res = s.res := by rw [s.validate_snd_eq]
@[simp] theorem State.validate_rerr : s.validate.2.rerr = s.rerr := by rw [s.validate_snd_eq]
@[simp] theorem State.validate_buf : s.validate.2.buf = s.buf := by rw [s.validate_snd_eq]
@[simp] theorem State.validate_bufByte (i : Nat) : s.validate.2.bufByte i = s.bufByte i := by
  rw [State.bufByte, State.validate_buf, State.bufByte]
@[simp] theorem State.validate_ph : s.validate.2.ph = s.ph := by rw [s.validate_snd_eq]
@[simp] theorem State.validate_orig : s.validate.2.orig = s.orig := by rw [s.validate_snd_eq]
@[simp] theorem State.validate_chg : s.validate.2.chg = s.chg := by rw [s.validate_snd_eq]
@[simp] theorem State.validate_history : s.validate.2.history = s.history := by rw [s.validate_snd_eq]
@[simp] theorem State.validate_hostWords : s.validate.2.hostWords = s.hostWords := by rw [s.validate_snd_eq]
@[simp] theorem State.validate_secIn : s.validate.2.secIn = s.secIn := by rw [s.validate_snd_eq]

/-- VAL never writes M (R32). -/
@[simp] theorem State.validate_flagM : s.validate.2.flagM = s.flagM := by
  rcases s.validate_cases with ⟨-, h⟩ | ⟨-, h⟩ | ⟨-, h⟩ | ⟨-, h⟩ <;> simp [h]

/-- VAL ends with OK, AddressMismatch or ChecksumMismatch (R134). -/
theorem State.validate_fst_mem : s.validate.1 ∈ [.ok, .addressMismatch, .checksumMismatch] := by
  rcases s.validate_cases with ⟨-, h⟩ | ⟨-, h⟩ | ⟨-, h⟩ | ⟨-, h⟩ <;> simp [h]

end validate

/-! ### Steps of a busy block (R98, R140, R203) -/

/-- No phase takes a word or writes a register that no transfer writes. -/
theorem PhaseEffect.frame {s t : State} (h : PhaseEffect s t) :
    t.hostWords = s.hostWords ∧ t.addr = s.addr ∧ t.len = s.len ∧ t.mask = s.mask ∧ t.out = s.out ∧
      t.acc = s.acc ∧ t.flagM = s.flagM := by
  cases h <;> simp

/-- Settles O6: the step is the phase's, and no phase's update touches the seven. -/
theorem busyBlockKeepsWaitingWordAndOperands : Obligations.BusyBlockKeepsWaitingWordAndOperands := by
  intro s t hbusy hstep
  obtain rfl : runPhase s = t := by simpa [step_of_busy hbusy] using hstep
  exact ⟨rfl, (phaseEffect_runPhase hbusy).frame⟩

/-- A phase that got its answer does not wait: PH changes, and only an unseal that failed and a restoration that
is over reach IDLE. -/
theorem PhaseEffect.moves {s t : State} (h : PhaseEffect s t) (hans : s.answered = true) :
    t.ph ≠ s.ph ∧ (t.ph = .idle → s.ph = .wSec ∨ s.ph = .rSec ∨ s.ph = .xRest) := by
  cases h with
  | waits hno => exact absurd hans (by simp [hno])
  | unseals body rest hph => rcases hph with ⟨hp, rfl⟩ | ⟨hp, rfl⟩ <;> simp [hp]
  | unsealFails c rest hph => rcases hph with hp | hp <;> simp [hp]
  | settles after n hph => rcases hph with ⟨hp, rfl⟩ | ⟨hp, rfl⟩ <;> simp [hp]
  | _ => simp [*]

/-- Settles O9: with its answer no phase waits, and each of the other effects names the phase that it goes on to. -/
theorem answeredPhaseMovesOn : Obligations.AnsweredPhaseMovesOn := by
  intro s t hbusy hans hstep
  obtain rfl : runPhase s = t := by simpa [step_of_busy hbusy] using hstep
  exact (phaseEffect_runPhase hbusy).moves hans

/-- Without its answer the phase waits: every other effect takes an answer, or needs none. -/
theorem PhaseEffect.eq_of_not_answered {s t : State} (h : PhaseEffect s t) (hno : s.answered = false) :
    t = s := by
  cases h with
  | waits => rfl
  | unseals body rest hph hans =>
    rcases hph with ⟨hp, -⟩ | ⟨hp, -⟩ <;> simp [State.answered, hp, hans] at hno
  | unsealFails c rest hph hans => rcases hph with hp | hp <;> simp [State.answered, hp, hans] at hno
  | settles after n hph hans => rcases hph with ⟨hp, -⟩ | ⟨hp, -⟩ <;> simp [State.answered, hp, hans] at hno
  | _ => simp_all [State.answered]

/-- Settles O8: the phase waits, and so does STGET. -/
theorem engineWaitsForAMissingAnswer : Obligations.EngineWaitsForAMissingAnswer := by
  refine fun s => ⟨fun hno => ?_, exec_stget_of_nil⟩
  have hbusy : s.ph ≠ .idle := by
    intro hidle
    simp [State.answered, hidle] at hno
  rw [step_of_busy hbusy, (phaseEffect_runPhase hbusy).eq_of_not_answered hno]

/-! ### The history (R73) -/

/-- Settles O10: an effect with an event logs it once; the others leave the history alone. -/
theorem historyGrowsByAtMostOneEvent : Obligations.HistoryGrowsByAtMostOneEvent := by
  intro s t hstep
  cases stepEffect_of_step hstep with
  | phase _ _ heff => cases heff <;> simp
  | waits => exact .inl rfl
  | command _ _ _ _ heff => cases heff <;> simp
  | illegal => simp

/-! ### The writers of the registers (R21 to R32) -/

/-- Settles O54: no phase writes one of the five, and among the commands only the named ones do. -/
theorem operandRegistersHaveTheirWriters : Obligations.OperandRegistersHaveTheirWriters := by
  intro s t hstep
  cases stepEffect_of_step hstep with
  | phase _ _ heff => simp [heff.frame]
  | waits => simp
  | command i rest _ hi heff =>
    cases heff with
    | setaddr imm => simpa using fun _ => ⟨rest, hi⟩
    | setlen a => simpa using fun _ => ⟨rest, hi⟩
    | setmask imm => simpa using fun _ => ⟨rest, hi⟩
    | bufrd a => simpa using fun _ => .inl ⟨a, rest, hi⟩
    | ckfin => simpa using fun _ => .inr (.inl ⟨rest, hi⟩)
    | ckbuf a => simpa using fun _ => .inr (.inr ⟨a, rest, hi⟩)
    | ckclr => simpa using fun _ => .inl ⟨rest, hi⟩
    | ckadd imm => simpa using fun _ => .inr ⟨imm, rest, hi⟩
    | _ => simp
  | illegal => simp

/-- Settles O56: each phase and each command that writes one of the six is a writer the rules name for it. -/
theorem statusRegistersHaveTheirWriters : Obligations.StatusRegistersHaveTheirWriters := by
  intro s t hstep
  cases stepEffect_of_step hstep with
  | phase _ _ heff =>
    cases heff with
    | sendsTrailer _ hph => simp [hph]
    | sendsTrailerFails _ hph => simp [hph]
    | readsStatus _ _ hph => simp [hph]
    | validates hph => simp [hph]
    | restores _ hph => simp [hph]
    | restoreFails _ _ hph => simp [hph]
    | _ => simp
  | waits => simp
  | command i rest _ hi heff =>
    have hrest : ∃ rest, s.presents i rest := ⟨rest, hi⟩
    cases heff with
    | ckfin => simp [hrest]
    | ckbuf a => simpa using fun _ => .inr (.inl ⟨a, rest, hi⟩)
    | xmcomp => simp [hrest]
    | xmvalRejects => simp [hrest]
    | xmval => simp [hrest]
    | xmwrite => simp [hrest]
    | xmreadRejects => simp [hrest]
    | xmread => simp [hrest]
    | stget => simp [hrest]
    | stdec imm => simpa using fun _ => .inr (.inl ⟨imm, rest, hi⟩)
    | sttest imm => simpa using fun _ => ⟨imm, rest, hi⟩
    | _ => simp
  | illegal => simp

/-! ### The writers of the buffer (R35) -/

/-- W_FRAME changes no byte but the address bytes (R143). -/
theorem State.stampAddress_bufByte_of_ne (s : State) {j : Nat} (h : s.stampAddress.bufByte j ≠ s.bufByte j) :
    j = 0 ∨ j = 1 := by
  by_contra hj
  simp only [not_or] at hj
  exact h (by simp [State.stampAddress_bufByte_eq, hj])

/-- W_SUM changes no byte but the trailer's (R145). -/
theorem State.stampTrailer_bufByte_of_ne (s : State) {j : Nat} (h : s.stampTrailer.bufByte j ≠ s.bufByte j) :
    j = 34 ∨ j = 35 := by
  by_contra hj
  simp only [not_or] at hj
  exact h (by simp [State.stampTrailer_bufByte_eq, hj])

/-- Composing changes no byte but the address bytes and the trailer's (R133). -/
theorem State.stampAddress_stampTrailer_bufByte_of_ne (s : State) {j : Nat}
    (h : s.stampAddress.stampTrailer.bufByte j ≠ s.bufByte j) : j = 0 ∨ j = 1 ∨ j = 34 ∨ j = 35 := by
  by_contra hj
  simp only [not_or] at hj
  exact h (by simp [State.stampAddress_stampTrailer_bufByte, hj])

/-- Settles O57: the five operations on the buffer, each at the bytes it stores. -/
theorem bufferBytesHaveTheirWriters : Obligations.BufferBytesHaveTheirWriters := by
  intro s t j hstep
  cases stepEffect_of_step hstep with
  | phase _ _ heff =>
    cases heff with
    | sendsHead _ hph =>
      exact fun hne => .inr (.inr (.inl ⟨hph, s.stampAddress_bufByte_of_ne (by simpa using hne)⟩))
    | sendsHeadFails _ hph =>
      exact fun hne => .inr (.inr (.inl ⟨hph, s.stampAddress_bufByte_of_ne (by simpa using hne)⟩))
    | sendsTrailer _ hph =>
      exact fun hne => .inr (.inr (.inr (.inl ⟨hph, s.stampTrailer_bufByte_of_ne (by simpa using hne)⟩)))
    | sendsTrailerFails _ hph =>
      exact fun hne => .inr (.inr (.inr (.inl ⟨hph, s.stampTrailer_bufByte_of_ne (by simpa using hne)⟩)))
    | readsFrame _ _ hph => simp [hph]
    | _ => simp
  | waits => simp
  | command i rest _ hi heff =>
    cases heff with
    | bufwr a imm =>
      intro hne
      rw [State.succeed_bufByte, State.setBufByte_bufByte, ne_eq, ite_eq_right_iff, Classical.not_imp] at hne
      exact .inl ⟨a, imm, rest, hi, hne.1.symm⟩
    | xmcomp =>
      intro hne
      exact .inr (.inl ⟨⟨rest, hi⟩, s.stampAddress_stampTrailer_bufByte_of_ne (by simpa using hne)⟩)
    | _ => simp
  | illegal => simp

/-! ### The writers of SECMODE and RES (R28, R29) -/

/-- A SETMODE operand never names Unknown (R115). -/
theorem modeOfOperand_ne_unknown {a : Byte} {m : SecMode} (h : modeOfOperand a = some m) : m ≠ .unknown := by
  unfold modeOfOperand at h
  split_ifs at h <;> cases h <;> decide

/-- A command that changed the mode changed it from Sealed (R142, R156). -/
theorem State.Inv.orig_of_chg {s : State} (h : s.Inv) (hbusy : s.ph ≠ .idle) (hchg : s.chg = true) :
    s.orig = .sealed := by
  have hmodes := h.modes
  cases hph : s.ph <;>
    simp_all [State.modesAgree, State.modesBeforeUnseal, State.modesInBody]

/-- Settles O55: besides the two commands only an ok of the security port writes the mode, to Unsealed before the
body and to the original mode, Sealed, after it. -/
theorem secmodeHasItsWriters : Obligations.SecmodeHasItsWriters := by
  intro s t hinv hstep
  cases stepEffect_of_step hstep with
  | phase _ hbusy heff =>
    cases heff with
    | unseals body rest hph => exact fun _ => .inr (.inr ⟨.unsealed, hbusy, by simp⟩)
    | restores rest hph hchg =>
      exact fun _ => .inr (.inr ⟨s.orig, hbusy, by simp [hinv.orig_of_chg hbusy hchg]⟩)
    | _ => simp
  | waits => simp
  | command i rest _ hi heff =>
    cases heff with
    | setmode a m hm => exact fun _ => .inr (.inl ⟨a, rest, hi, modeOfOperand_ne_unknown hm⟩)
    | stseed => exact fun _ => .inl ⟨rest, hi, fun h => by simp_all [ResultKind.code]⟩
    | _ => simp
  | illegal => simp

/-- The codes that the engine itself gives, each of its own result kinds one (R170). -/
def engineCodes : List Byte := [0x00#8, 0x01#8, 0x02#8, 0x03#8, 0x05#8, 0x06#8, 0x07#8, 0x0A#8]

/-- The result kinds that the engine never ends with of its own (R170). -/
def foreignKinds : List ResultKind := [.securityTransitionFailed, .timeout, .deviceIdentityMismatch]

theorem ResultKind.code_mem_engineCodes {k : ResultKind} (h : k ∉ foreignKinds) : k.code ∈ engineCodes := by
  revert h
  cases k <;> decide

/-- A command leaves RES alone (the entry of a transfer, and STGET while it waits) or ends with a code of the
engine's own. -/
theorem CommandEffect.res_mem {s t : State} {i : Instr} (h : CommandEffect s i t) :
    t.res = s.res ∨ t.res ∈ engineCodes := by
  have hcode {k : ResultKind} (hk : k ∉ foreignKinds) : k.code = s.res ∨ k.code ∈ engineCodes :=
    .inr (ResultKind.code_mem_engineCodes hk)
  cases h with
  | ends _ k hk =>
    exact hcode ((by decide : ∀ k ∈ [.ok, .invalidArgument, .securityUnknown], k ∉ foreignKinds) k hk)
  | xmval =>
    exact hcode ((by decide : ∀ k ∈ [.ok, .addressMismatch, .checksumMismatch], k ∉ foreignKinds) _
      s.clearResult.validate_fst_mem)
  | xmreadRejects k hk =>
    exact hcode ((by decide : ∀ k ∈ [.invalidArgument, .securityUnknown], k ∉ foreignKinds) k hk)
  | stseed => exact hcode (by split_ifs <;> decide)
  | xmwrite => exact .inl (by simp)
  | xmread => exact .inl (by simp)
  | stgetWaits => exact .inl rfl
  | stgetFails => exact hcode (k := .ioError) (by decide)
  | xmvalRejects => exact hcode (k := .invalidArgument) (by decide)
  | _ => exact hcode (k := .ok) (by decide)

/-- Settles O58: a failed security request gives RES its own code, the end of a transfer the body's code or
RERR's, and everything else a code of the engine's. -/
theorem resHoldsEngineOrPortCodes : Obligations.ResHoldsEngineOrPortCodes := by
  intro s t hinv hstep
  cases stepEffect_of_step hstep with
  | phase _ hbusy heff =>
    have hbody (hph : s.ph = .xRest) : s.e ∈ engineCodes :=
      (by decide : [0x00#8, 0x01#8, 0x05#8, 0x06#8, 0x07#8] ⊆ engineCodes) (hinv.bodyCode hph)
    have hresult {c : Byte} (hph : s.ph = .xRest) (hc : c ∈ engineCodes) :
        (if s.e = 0x00#8 then c else s.e) ∈ engineCodes := by
      split_ifs
      exacts [hc, hbody hph]
    cases heff with
    | unsealFails c rest hph hans => exact .inr (.inr ⟨.unsealed, c, rest, hans, by simp⟩)
    | finishes hph => exact .inr (.inl (hresult hph (by rw [hinv.rerr hbusy]; decide)))
    | restores rest hph => exact .inr (.inl (hresult hph (by decide)))
    | restoreFails c rest hph hchg hans =>
      by_cases he : s.e = 0x00#8
      · exact .inr (.inr ⟨s.orig, c, rest, hans, by simp [he]⟩)
      · refine .inr (.inl ?_)
        rw [State.endTransfer_res, if_neg he]
        exact hbody hph
    | _ => simp
  | waits => simp
  | command i rest _ hi heff => exact heff.res_mem.imp_right .inl
  | illegal => exact .inr (.inl (ResultKind.code_mem_engineCodes (k := .illegalCommand) (by decide)))

/-- Settles O44: PH reaches IDLE from a failed unseal, where CHG is still 0, or from the restoration, which asks
for the original mode. -/
theorem changedModeIsAlwaysRestoredOrReported : Obligations.ChangedModeIsAlwaysRestoredOrReported := by
  intro s t hinv hbusy hchg hstep hend
  have horig := hinv.orig_of_chg hbusy hchg
  cases stepEffect_of_step hstep with
  | phase _ _ heff =>
    cases heff with
    | waits => exact absurd hend hbusy
    | unseals body rest hph => rcases hph with ⟨-, rfl⟩ | ⟨-, rfl⟩ <;> simp at hend
    | settles after n hph => rcases hph with ⟨-, rfl⟩ | ⟨-, rfl⟩ <;> simp at hend
    | unsealFails c rest hph =>
      have hmodes := hinv.modes
      rcases hph with hph | hph <;> simp [State.modesAgree, State.modesBeforeUnseal, hph, hchg] at hmodes
    | finishes hph hno => simp [hchg] at hno
    | restores rest hph => exact ⟨.ok, by simp [horig], .inl ⟨rfl, by simp [horig], by simp⟩⟩
    | restoreFails c rest hph =>
      have hmodes := hinv.modes
      simp [State.modesAgree, State.modesInBody, hph, hchg] at hmodes
      refine ⟨.err c, by simp [horig], .inr ⟨c, rfl, by simpa using hmodes.1, by simp,
        by simpa using c.nonzero, ?_⟩⟩
      rw [State.endTransfer_res]
      split_ifs with he
      exacts [c.nonzero, he]
    | _ => simp at hend
  | waits hidle => exact absurd hidle hbusy
  | command i rest _ hi => exact absurd hi.1 hbusy
  | illegal hidle => exact absurd hidle hbusy

/-! ### The commands that do not read the mode (R179) -/

/-- The validation neither reads nor writes SECMODE. -/
theorem State.validate_setSecmode (s : State) (m : SecMode) :
    (s.setSecmode m).validate = (s.validate.1, s.validate.2.setSecmode m) := by
  have hbytes (n : Nat) : (s.setSecmode m).bufBytes n = s.bufBytes n := rfl
  simp only [State.validate, State.setSecmode_bufByte, State.setSecmode_addrLo, State.setSecmode_addrHi,
    State.setSecmode_len, hbytes]
  split_ifs <;> rfl

/-- Settles O59: each of these commands has the same equation in both states, since its checks read ADDR, LEN,
the operand or the status queue alone, and its update commutes with that of SECMODE. -/
theorem otherCommandsIgnoreTheMode : Obligations.OtherCommandsIgnoreTheMode := by
  intro i s t m hwrite hread hseed hmode hexec
  change exec i (s.setSecmode m) = .next (t.setSecmode m)
  have of_eq {u : State} (hu : exec i s = .next u) (hu' : exec i (s.setSecmode m) = .next (u.setSecmode m)) :
      exec i (s.setSecmode m) = .next (t.setSecmode m) := by
    cases hexec.symm.trans hu
    exact hu'
  cases i with
  | bufwr a imm =>
    rcases Nat.lt_or_ge 35 a.toNat with ha | ha
    · exact of_eq (exec_bufwr_of_gt imm s ha) (exec_bufwr_of_gt imm _ ha)
    · exact of_eq (exec_bufwr_of_le imm s ha) (exec_bufwr_of_le imm _ ha)
  | bufrd a =>
    rcases Nat.lt_or_ge 35 a.toNat with ha | ha
    · exact of_eq (exec_bufrd_of_gt s ha) (exec_bufrd_of_gt _ ha)
    · exact of_eq (exec_bufrd_of_le s ha) (exec_bufrd_of_le _ ha)
  | ckbuf a =>
    rcases Nat.lt_or_ge 36 a.toNat with ha | ha
    · exact of_eq (exec_ckbuf_of_gt s ha) (exec_ckbuf_of_gt _ ha)
    · exact of_eq (exec_ckbuf_of_le s ha) (exec_ckbuf_of_le _ ha)
  | xmcomp =>
    by_cases hargs : s.argsInRange
    · exact of_eq (exec_xmcomp_of_argsInRange hargs) (exec_xmcomp_of_argsInRange (s := s.setSecmode m) hargs)
    · exact of_eq (exec_xmcomp_of_not_argsInRange hargs)
        (exec_xmcomp_of_not_argsInRange (s := s.setSecmode m) hargs)
  | xmval =>
    by_cases hargs : s.argsInRange
    · exact of_eq (exec_xmval_of_validate hargs rfl)
        (exec_xmval_of_validate (s := s.setSecmode m) hargs (s.clearResult.validate_setSecmode m))
    · exact of_eq (exec_xmval_of_not_argsInRange hargs)
        (exec_xmval_of_not_argsInRange (s := s.setSecmode m) hargs)
  | stget =>
    rcases hans : s.statusIn with _ | ⟨_ | _, rest⟩
    · exact of_eq (exec_stget_of_nil hans) (exec_stget_of_nil (s := s.setSecmode m) hans)
    · exact of_eq (exec_stget_of_ok hans) (exec_stget_of_ok (s := s.setSecmode m) hans)
    · exact of_eq (exec_stget_of_ioError hans) (exec_stget_of_ioError (s := s.setSecmode m) hans)
  | xmwrite => exact absurd rfl hwrite
  | xmread => exact absurd rfl hread
  | stseed => exact absurd rfl hseed
  | setmode a => exact absurd rfl (hmode a)
  | _ => exact of_eq rfl rfl

end Sys2Proof.Machine
end

section
/-! The invariant (R31, R35, R141 to R156): its part that no transfer bears on, its part that a transfer's body
keeps from phase to phase, and that every step preserves the whole. -/

namespace Sys2Proof.Machine

/-! ### The part that holds between commands too (R31, R35) -/

/-- What the invariant says of the buffer, RLEN and LENBAD, in every phase. -/
structure State.DataOk (s : State) : Prop where
  buffer : bufWf s.buf = true
  rlen : s.rlen.toNat ≤ 32
  lenbad : s.flagLenbad = true → s.rlen = 0x00#8

theorem State.Inv.dataOk {s : State} (h : s.Inv) : s.DataOk := ⟨h.buffer, h.rlen, h.lenbad⟩

/-- Between commands the invariant says nothing more. -/
theorem State.DataOk.inv_of_idle {s : State} (h : s.DataOk) (hidle : s.ph = .idle) : s.Inv where
  buffer := h.buffer
  args hbusy := absurd hidle hbusy
  modes := by simp [State.modesAgree, hidle]
  rerr hbusy := absurd hidle hbusy
  noErrorYet hbusy := absurd hidle hbusy
  bodyCode := by simp [hidle]
  rlen := h.rlen
  cleared := by simp [Phase.ofRead, hidle]
  lenbad := h.lenbad
  addressStored := by simp [Phase.headSent, hidle]
  trailerStored := by simp [Phase.trailerSent, hidle]

/-- An operation that writes none of the three keeps what is said of them. -/
theorem State.DataOk.congr {s t : State} (h : s.DataOk)
    (heq : t.buf = s.buf ∧ t.rlen = s.rlen ∧ t.flagLenbad = s.flagLenbad) : t.DataOk := by
  obtain ⟨hbuf, hrlen, hlenbad⟩ := heq
  exact ⟨by rw [hbuf, h.buffer], by rw [hrlen]; exact h.rlen, by rw [hrlen, hlenbad]; exact h.lenbad⟩

/-- Storing the address bytes keeps the buffer's canonical form (R143). -/
theorem State.stampAddress_bufWf {s : State} (h : bufWf s.buf = true) : bufWf s.stampAddress.buf = true := by
  rw [State.stampAddress_buf]
  exact bufWf_cellWrite _ _ _ (bufWf_cellWrite _ _ _ h (by decide)) (by decide)

/-- Storing the trailer keeps the buffer's canonical form (R145). -/
theorem State.stampTrailer_bufWf {s : State} (h : bufWf s.buf = true) : bufWf s.stampTrailer.buf = true := by
  rw [State.stampTrailer_buf]
  exact bufWf_cellWrite _ _ _ (bufWf_cellWrite _ _ _ h (by decide)) (by decide)

/-- RLEN and LENBAD agree after the first action of XMVAL and XMREAD (R135). -/
theorem State.clearResult_dataOk {s : State} (h : bufWf s.buf = true) : s.clearResult.DataOk :=
  ⟨h, by simp, by simp⟩

/-- The validation sets one of RLEN and LENBAD at most, from both cleared, and RLEN to no more than 32
(R134). -/
theorem State.validate_dataOk {s : State} (hbuf : bufWf s.buf = true) (hrlen : s.rlen = 0x00#8)
    (hlenbad : s.flagLenbad = false) : s.validate.2.DataOk := by
  have hclear : s.DataOk := ⟨hbuf, by simp [hrlen], fun _ => hrlen⟩
  rcases s.validate_cases with ⟨-, h⟩ | ⟨-, h⟩ | ⟨-, h⟩ | ⟨⟨-, ⟨-, hle⟩, -⟩, h⟩ <;> rw [h]
  · exact hclear
  · exact ⟨hbuf, by simp [hrlen], fun _ => hrlen⟩
  · exact hclear.congr ⟨rfl, rfl, rfl⟩
  · refine ⟨hbuf, ?_, by simp [hlenbad]⟩
    rw [State.setRlen_rlen, BitVec.toNat_ofNat]
    omega

/-- Every command keeps the part. -/
theorem CommandEffect.dataOk {s t : State} {i : Instr} (heff : CommandEffect s i t) (h : s.DataOk) : t.DataOk := by
  have hclear : s.clearResult.DataOk := State.clearResult_dataOk h.buffer
  cases heff with
  | bufwr a imm ha =>
    exact ⟨bufWf_cellWrite _ _ _ h.buffer (Nat.lt_succ_of_le ha), h.rlen, h.lenbad⟩
  | xmcomp =>
    exact ⟨State.stampTrailer_bufWf (State.stampAddress_bufWf h.buffer), by simpa using h.rlen,
      by simpa using h.lenbad⟩
  | xmvalRejects => exact hclear.congr (by simp)
  | xmreadRejects => exact hclear.congr (by simp)
  | xmread => exact hclear.congr (by simp)
  | xmval =>
    have hval := State.validate_dataOk (s := s.clearResult) h.buffer (by simp) (by simp)
    exact hval.congr (by simp)
  | _ => exact h.congr (by simp)

/-! ### The part that the phases of a transfer share (R141) -/

/-- What the invariant says of a transfer whatever its phase: the arguments passed and RERR is still 0. -/
structure State.TransferOk (s : State) : Prop extends s.DataOk where
  args : s.argsOk = true
  rerr : s.rerr = 0x00#8

theorem State.Inv.transferOk {s : State} (h : s.Inv) (hbusy : s.ph ≠ .idle) : s.TransferOk :=
  ⟨h.dataOk, h.args hbusy, h.rerr hbusy⟩

theorem State.TransferOk.congr {s t : State} (h : s.TransferOk) (hdata : t.DataOk)
    (heq : t.addr = s.addr ∧ t.len = s.len ∧ t.rerr = s.rerr) : t.TransferOk := by
  obtain ⟨haddr, hlen, hrerr⟩ := heq
  exact ⟨hdata, by rw [State.argsOk, haddr, hlen]; exact h.args, hrerr.trans h.rerr⟩

/-- The implicit unseal is waited for: nothing has been sent yet (R142). -/
theorem State.TransferOk.inv_of_sec {s : State} (h : s.TransferOk) (hph : s.ph = .wSec ∨ s.ph = .rSec)
    (hmodes : s.modesBeforeUnseal) (he : s.e = 0x00#8)
    (hclear : s.ph.ofRead = true → s.rlen = 0x00#8 ∧ s.flagLenbad = false) : s.Inv where
  buffer := h.buffer
  args _ := h.args
  modes := by rcases hph with hp | hp <;> simpa [State.modesAgree, hp] using hmodes
  rerr _ := h.rerr
  noErrorYet _ _ := he
  bodyCode := by rcases hph with hp | hp <;> simp [hp]
  rlen := h.rlen
  cleared := hclear
  lenbad := h.lenbad
  addressStored := by rcases hph with hp | hp <;> simp [Phase.headSent, hp]
  trailerStored := by rcases hph with hp | hp <;> simp [Phase.trailerSent, hp]

/-- PH names a phase of a transfer's body or its restoration: the unseal, if one was due, is done. -/
def Phase.inBody : Phase → Bool
  | .idle => false
  | .wSec => false
  | .rSec => false
  | .wFrame => true
  | .wDly1 => true
  | .wSum => true
  | .wDly2 => true
  | .wStat => true
  | .rAddr => true
  | .rFrame => true
  | .rVal => true
  | .xRest => true

theorem State.modesAgree_of_inBody {s : State} (h : s.ph.inBody = true) : s.modesAgree ↔ s.modesInBody := by
  cases hph : s.ph <;> simp_all [Phase.inBody, State.modesAgree]

/-- The frame's trailer is stored: CSUM is the checksum of the write's head, and BUF[34] and BUF[35] hold it and
the length byte (R145). -/
def State.trailerOk (s : State) : Prop :=
  s.csum = checksum s.writeHead ∧ s.bufByte 34 = s.csum ∧ (s.bufByte 35).toNat = s.len.toNat + 4

/-- The echo is a matter of ADDR and the buffer alone. -/
theorem State.echoOk_congr {s t : State} (h : s.echoOk) (heq : t.addr = s.addr ∧ t.buf = s.buf) : t.echoOk := by
  obtain ⟨haddr, hbuf⟩ := heq
  simp only [State.echoOk, State.lowAddr, State.highAddr, State.bufByte, haddr, hbuf] at h ⊢
  exact h

/-- The trailer is a matter of ADDR, LEN, CSUM and the buffer alone. -/
theorem State.trailerOk_congr {s t : State} (h : s.trailerOk)
    (heq : t.addr = s.addr ∧ t.len = s.len ∧ t.csum = s.csum ∧ t.buf = s.buf) : t.trailerOk := by
  obtain ⟨haddr, hlen, hcsum, hbuf⟩ := heq
  have hbyte : t.bufByte = s.bufByte := by
    funext i
    rw [State.bufByte, hbuf, State.bufByte]
  have hhead : t.writeHead = s.writeHead := by
    simp only [State.writeHead, State.payload, State.lowAddr, State.highAddr, haddr, hlen, hbyte]
  rwa [State.trailerOk, hhead, hcsum, hbyte, hlen]

/-- What the invariant says of every phase from the body on. -/
structure State.BodyOk (s : State) : Prop extends s.TransferOk where
  modes : s.modesInBody

theorem State.Inv.bodyOk {s : State} (h : s.Inv) (hph : s.ph.inBody = true) : s.BodyOk where
  toTransferOk := h.transferOk (by rintro hidle; simp [hidle, Phase.inBody] at hph)
  modes := (State.modesAgree_of_inBody hph).mp h.modes

/-- A phase of the body that keeps RLEN and LENBAD in order writes nothing else that is spoken of. -/
theorem State.BodyOk.congr {s t : State} (h : s.BodyOk) (hdata : t.DataOk)
    (heq : t.addr = s.addr ∧ t.len = s.len ∧ t.rerr = s.rerr ∧ t.secmode = s.secmode ∧ t.orig = s.orig ∧
      t.chg = s.chg) : t.BodyOk := by
  obtain ⟨haddr, hlen, hrerr, hsecmode, horig, hchg⟩ := heq
  refine ⟨h.toTransferOk.congr hdata ⟨haddr, hlen, hrerr⟩, ?_⟩
  rw [State.modesInBody, hsecmode, horig, hchg]
  exact h.modes

/-- From the body on, the invariant is the shared part and what each phase adds. -/
theorem State.BodyOk.inv {s : State} (h : s.BodyOk) (hph : s.ph.inBody = true)
    (he : s.ph ≠ .xRest → s.e = 0x00#8)
    (hcode : s.ph = .xRest → s.e ∈ [0x00#8, 0x01#8, 0x05#8, 0x06#8, 0x07#8])
    (hclear : s.ph.ofRead = true → s.rlen = 0x00#8 ∧ s.flagLenbad = false)
    (hecho : s.ph.headSent = true → s.echoOk)
    (htrailer : s.ph.trailerSent = true → s.trailerOk) : s.Inv where
  buffer := h.buffer
  args _ := h.args
  modes := (State.modesAgree_of_inBody hph).mpr h.modes
  rerr _ := h.rerr
  noErrorYet _ := he
  bodyCode := hcode
  rlen := h.rlen
  cleared := hclear
  lenbad := h.lenbad
  addressStored := hecho
  trailerStored := htrailer

/-- The first phase of a body finds nothing sent: a write has no condition on the buffer yet, and a read has
cleared RLEN and LENBAD. -/
theorem State.BodyOk.inv_of_first {s : State} (h : s.BodyOk) (hph : s.ph = .wFrame ∨ s.ph = .rAddr)
    (he : s.e = 0x00#8) (hclear : s.ph.ofRead = true → s.rlen = 0x00#8 ∧ s.flagLenbad = false) : s.Inv := by
  rcases hph with hp | hp <;>
    exact h.inv (by simp [Phase.inBody, hp]) (fun _ => he) (by simp [hp]) hclear
      (by simp [Phase.headSent, hp]) (by simp [Phase.trailerSent, hp])

/-- A body that ends with one of its codes leaves the invariant at X_REST. -/
theorem State.BodyOk.inv_leaveBody {s : State} (h : s.BodyOk) {k : ResultKind}
    (hk : k ∈ [.ok, .ioError, .addressMismatch, .checksumMismatch, .writeRejected]) : (s.leaveBody k).Inv := by
  have hcode : k.code ∈ [0x00#8, 0x01#8, 0x05#8, 0x06#8, 0x07#8] := by
    revert k
    decide
  have hok : (s.leaveBody k).BodyOk := h.congr (h.toDataOk.congr (by simp)) (by simp)
  exact hok.inv rfl (by simp) (by simpa using hcode) (by simp [Phase.ofRead]) (by simp [Phase.headSent])
    (by simp [Phase.trailerSent])

/-- The end of a transfer leaves the invariant between commands. -/
theorem State.DataOk.inv_endTransfer {s : State} (h : s.DataOk) (c : Byte) : (s.endTransfer c).Inv :=
  (h.congr (t := s.endTransfer c) (by simp)).inv_of_idle rfl

/-! ### The entry of a transfer (R141) -/

/-- The entry leaves the invariant at the unseal from Sealed, and at the body from the other two modes. -/
theorem State.inv_enter {s : State} {sec body : Phase} (hdata : s.DataOk) (hargs : s.argsInRange)
    (hmode : s.secmode ≠ .unknown) (hph : sec = .wSec ∧ body = .wFrame ∨ sec = .rSec ∧ body = .rAddr)
    (hclear : sec = .rSec → s.rlen = 0x00#8 ∧ s.flagLenbad = false) :
    (s.accept.beginTransfer.setPh (if s.secmode = .sealed then sec else body)).Inv := by
  have htransfer (p : Phase) : (s.accept.beginTransfer.setPh p).TransferOk :=
    ⟨hdata.congr (by simp), by simpa using s.argsOk_iff_argsInRange.mpr hargs, by simp⟩
  by_cases hsealed : s.secmode = .sealed
  · rw [if_pos hsealed]
    refine (htransfer sec).inv_of_sec ?_ ⟨by simpa using hsealed, by simpa using hsealed, by simp⟩
      (by simp) ?_
    · exact hph.imp And.left And.left
    · rcases hph with ⟨rfl, -⟩ | ⟨rfl, -⟩
      · simp [Phase.ofRead]
      · simpa using fun _ => hclear rfl
  · rw [if_neg hsealed]
    have hmodes : (s.accept.beginTransfer.setPh body).modesInBody := by
      refine .inr ⟨by simp, by simp, ?_⟩
      cases hm : s.secmode <;> simp_all
    refine State.BodyOk.inv_of_first ⟨htransfer body, hmodes⟩ ?_ (by simp) ?_
    · exact hph.imp And.right And.right
    · rcases hph with ⟨rfl, rfl⟩ | ⟨rfl, rfl⟩
      · simp [Phase.ofRead]
      · simpa using fun _ => hclear rfl

/-! ### The frame of a write in the buffer (R143, R145) -/

/-- The trailer lies behind the payload, so the write's head is the same before and after it is stored. -/
theorem State.stampTrailer_writeHead {s : State} (hargs : s.argsOk = true) :
    s.stampTrailer.writeHead = s.writeHead := by
  have hlen := ((s.argsOk_iff.mp hargs).2).2
  simp only [State.writeHead, State.payload, State.lowAddr, State.highAddr, State.stampTrailer_addr,
    State.stampTrailer_len]
  congr 2
  refine List.map_congr_left fun i hi => ?_
  have hi' := List.mem_range.mp hi
  rw [State.stampTrailer_bufByte_eq, if_neg (by omega), if_neg (by omega)]

/-- The trailer lies behind the address bytes. -/
theorem State.stampTrailer_echoOk {s : State} (h : s.echoOk) : s.stampTrailer.echoOk := by
  simpa [State.echoOk, State.lowAddr, State.highAddr, State.stampTrailer_bufByte_eq] using h

/-- Once W_SUM has stored the trailer, CSUM and the trailer are those of the composed frame (R145). -/
theorem State.stampTrailer_trailerOk {s : State} (hargs : s.argsOk = true) (h : s.echoOk) :
    s.stampTrailer.trailerOk := by
  rw [State.trailerOk, State.stampTrailer_writeHead hargs, ← State.frameHead_eq_writeHead h]
  refine ⟨by simp, by simp [State.stampTrailer_bufByte_eq], ?_⟩
  rw [State.stampTrailer_bufByte_eq, if_pos rfl, s.lengthByte_toNat hargs, State.stampTrailer_len]

/-! ### The step -/

/-- Every command keeps the invariant: it ends between commands, but for the entry of a transfer. -/
theorem CommandEffect.inv {s t : State} {i : Instr} (heff : CommandEffect s i t) (hidle : s.ph = .idle)
    (h : s.Inv) : t.Inv := by
  have hdata := heff.dataOk h.dataOk
  cases heff with
  | xmwrite hargs hmode => exact State.inv_enter h.dataOk hargs hmode (.inl ⟨rfl, rfl⟩) (by simp)
  | xmread hargs hmode =>
    exact State.inv_enter (s := s.clearResult) (State.clearResult_dataOk h.buffer) hargs hmode
      (.inr ⟨rfl, rfl⟩) (by simp)
  | _ => exact hdata.inv_of_idle (by simpa using hidle)

/-- A phase of the body goes on: the next phase's conditions are those on what has been sent and read. -/
theorem State.Inv.inv_setPh {s u : State} {p : Phase} (h : s.Inv) (hin : s.ph.inBody = true ∧ s.ph ≠ .xRest)
    (hp : p.inBody = true ∧ p ≠ .xRest) (hdata : u.DataOk)
    (heq : (u.addr = s.addr ∧ u.len = s.len ∧ u.rerr = s.rerr ∧ u.secmode = s.secmode ∧ u.orig = s.orig ∧
      u.chg = s.chg) ∧ u.e = s.e)
    (hclear : p.ofRead = true → u.rlen = 0x00#8 ∧ u.flagLenbad = false)
    (hecho : p.headSent = true → u.echoOk) (htrailer : p.trailerSent = true → u.trailerOk) :
    (u.setPh p).Inv := by
  have hbusy : s.ph ≠ .idle := by
    intro hidle
    simp [hidle, Phase.inBody] at hin
  have hbody : (u.setPh p).BodyOk := (h.bodyOk hin.1).congr (hdata.congr (by simp)) (by simpa using heq.1)
  exact hbody.inv hp.1 (fun _ => heq.2.trans (h.noErrorYet hbusy hin.2)) (fun hx => absurd hx hp.2) hclear hecho
    htrailer

/-- A phase of the body leaves it with a code. -/
theorem State.Inv.inv_leaveBody {s u : State} {k : ResultKind} (h : s.Inv) (hin : s.ph.inBody = true)
    (hdata : u.DataOk)
    (heq : u.addr = s.addr ∧ u.len = s.len ∧ u.rerr = s.rerr ∧ u.secmode = s.secmode ∧ u.orig = s.orig ∧
      u.chg = s.chg)
    (hk : k ∈ [.ok, .ioError, .addressMismatch, .checksumMismatch, .writeRejected]) : (u.leaveBody k).Inv :=
  ((h.bodyOk hin).congr hdata heq).inv_leaveBody hk

/-- Every phase keeps the invariant. -/
theorem PhaseEffect.inv {s t : State} (heff : PhaseEffect s t) (hbusy : s.ph ≠ .idle) (h : s.Inv) : t.Inv := by
  have hdata := h.dataOk
  have haddress : s.stampAddress.DataOk := ⟨State.stampAddress_bufWf h.buffer, h.rlen, h.lenbad⟩
  have htrailer : s.stampTrailer.DataOk :=
    ⟨State.stampTrailer_bufWf h.buffer, by simpa using h.rlen, by simpa using h.lenbad⟩
  cases heff with
  | waits => exact h
  | unseals body rest hph =>
    have hbefore : s.modesBeforeUnseal := by
      have hmodes := h.modes
      rcases hph with ⟨hp, -⟩ | ⟨hp, -⟩ <;> simpa [State.modesAgree, hp] using hmodes
    refine State.BodyOk.inv_of_first
      ⟨(h.transferOk hbusy).congr (hdata.congr (by simp)) (by simp),
        .inl ⟨by simp, by simp, by simpa using hbefore.2.1⟩⟩
      (by simpa using hph.imp And.right And.right) ?_ ?_
    · rcases hph with ⟨hp, -⟩ | ⟨hp, -⟩ <;> simpa using h.noErrorYet hbusy (by simp [hp])
    · rcases hph with ⟨-, rfl⟩ | ⟨hp, rfl⟩
      · simp [Phase.ofRead]
      · simpa using fun _ => h.cleared (by simp [Phase.ofRead, hp])
  | unsealFails => exact (hdata.congr (by simp)).inv_endTransfer _
  | sendsHead rest hph =>
    exact h.inv_setPh (by simp [Phase.inBody, hph]) (by decide) (haddress.congr (by simp)) (by simp)
      (by simp [Phase.ofRead]) (fun _ => s.stampAddress_echoOk) (by simp [Phase.trailerSent])
  | sendsHeadFails rest hph =>
    exact h.inv_leaveBody (by simp [Phase.inBody, hph]) (haddress.congr (by simp)) (by simp) (by decide)
  | settles after n hph =>
    have hecho : s.echoOk :=
      h.addressStored (by rcases hph with ⟨hp, -⟩ | ⟨hp, -⟩ <;> simp [Phase.headSent, hp])
    rcases hph with ⟨hp, rfl⟩ | ⟨hp, rfl⟩
    · exact h.inv_setPh (by simp [Phase.inBody, hp]) (by decide) (hdata.congr (by simp)) (by simp)
        (by simp [Phase.ofRead]) (fun _ => State.echoOk_congr hecho (by simp)) (by simp [Phase.trailerSent])
    · have hstored : s.trailerOk := h.trailerStored (by simp [Phase.trailerSent, hp])
      exact h.inv_setPh (by simp [Phase.inBody, hp]) (by decide) (hdata.congr (by simp)) (by simp)
        (by simp [Phase.ofRead]) (fun _ => State.echoOk_congr hecho (by simp))
        (fun _ => State.trailerOk_congr hstored (by simp))
  | sendsTrailer rest hph =>
    have hecho : s.echoOk := h.addressStored (by simp [Phase.headSent, hph])
    have hstored := State.stampTrailer_trailerOk (h.args hbusy) hecho
    exact h.inv_setPh (by simp [Phase.inBody, hph]) (by decide) (htrailer.congr (by simp)) (by simp)
      (by simp [Phase.ofRead]) (fun _ => State.echoOk_congr (State.stampTrailer_echoOk hecho) (by simp))
      (fun _ => State.trailerOk_congr hstored (by simp))
  | sendsTrailerFails rest hph =>
    exact h.inv_leaveBody (by simp [Phase.inBody, hph]) (htrailer.congr (by simp)) (by simp) (by decide)
  | readsStatus data rest hph =>
    exact h.inv_leaveBody (by simp [Phase.inBody, hph]) (hdata.congr (by simp)) (by simp)
      (by split_ifs <;> decide)
  | readsStatusFails rest hph =>
    exact h.inv_leaveBody (by simp [Phase.inBody, hph]) (hdata.congr (by simp)) (by simp) (by decide)
  | sendsAddress rest hph =>
    have hclear := h.cleared (by simp [Phase.ofRead, hph])
    exact h.inv_setPh (by simp [Phase.inBody, hph]) (by decide) (hdata.congr (by simp)) (by simp)
      (fun _ => by simpa using hclear) (by simp [Phase.headSent]) (by simp [Phase.trailerSent])
  | sendsAddressFails rest hph =>
    exact h.inv_leaveBody (by simp [Phase.inBody, hph]) (hdata.congr (by simp)) (by simp) (by decide)
  | readsFrame data rest hph =>
    have hclear := h.cleared (by simp [Phase.ofRead, hph])
    exact h.inv_setPh (by simp [Phase.inBody, hph]) (by decide) ⟨bufWf_cellsOf data, h.rlen, h.lenbad⟩ (by simp)
      (fun _ => by simpa using hclear) (by simp [Phase.headSent]) (by simp [Phase.trailerSent])
  | readsFrameFails rest hph =>
    exact h.inv_leaveBody (by simp [Phase.inBody, hph]) (hdata.congr (by simp)) (by simp) (by decide)
  | validates hph =>
    have hclear := h.cleared (by simp [Phase.ofRead, hph])
    refine h.inv_leaveBody (by simp [Phase.inBody, hph]) (State.validate_dataOk h.buffer hclear.1 hclear.2)
      (by simp) ?_
    exact (by decide : [.ok, .addressMismatch, .checksumMismatch] ⊆
      [ResultKind.ok, .ioError, .addressMismatch, .checksumMismatch, .writeRejected]) s.validate_fst_mem
  | finishes => exact (hdata.congr (by simp)).inv_endTransfer _
  | restores => exact (hdata.congr (by simp)).inv_endTransfer _
  | restoreFails => exact (hdata.congr (by simp)).inv_endTransfer _

/-- Settles O53: the two case analyses above; while the host presents nothing, and after an illegal word, no
transfer runs. -/
theorem stepKeepsTheInvariant : Obligations.StepKeepsTheInvariant := by
  intro s t h hstep
  cases stepEffect_of_step hstep with
  | phase _ hbusy heff => exact heff.inv hbusy h
  | waits => exact h
  | command i rest _ hi heff => exact heff.inv hi.1 h
  | illegal hidle => exact (h.dataOk.congr (by simp)).inv_of_idle hidle

/-- Settles O52: at reset RLEN and LENBAD are zero and the buffer is canonical, and no transfer runs. -/
theorem resetSatisfiesTheInvariant : Obligations.ResetSatisfiesTheInvariant :=
  State.DataOk.inv_of_idle ⟨bufWf_reset, by decide, fun _ => rfl⟩ rfl

end Sys2Proof.Machine
end

section
/-! SEC_DECODE and what the host reads (R7, R36, R37): the admissible functions are exactly the 24 of the model, and
every register and view in numbers. -/

namespace Sys2Proof.Machine

/-! ### SEC_DECODE (R7, D9) -/

/-- Every choice of four different modes, one for each code, is one of the 24 functions. -/
theorem exists_secDecodeOf_of_ne (m0 m1 m2 m3 : SecMode)
    (h : m0 ≠ m1 ∧ m0 ≠ m2 ∧ m0 ≠ m3 ∧ m1 ≠ m2 ∧ m1 ≠ m3 ∧ m2 ≠ m3) :
    ∃ k : Fin 24, secDecodeOf k 0#2 = m0 ∧ secDecodeOf k 1#2 = m1 ∧ secDecodeOf k 2#2 = m2 ∧
      secDecodeOf k 3#2 = m3 := by
  have hall : ∀ m0 ∈ [SecMode.unknown, .sealed, .unsealed, .fullAccess],
      ∀ m1 ∈ [SecMode.unknown, .sealed, .unsealed, .fullAccess],
      ∀ m2 ∈ [SecMode.unknown, .sealed, .unsealed, .fullAccess],
      ∀ m3 ∈ [SecMode.unknown, .sealed, .unsealed, .fullAccess],
      m0 ≠ m1 ∧ m0 ≠ m2 ∧ m0 ≠ m3 ∧ m1 ≠ m2 ∧ m1 ≠ m3 ∧ m2 ≠ m3 →
      ∃ k : Fin 24, secDecodeOf k 0#2 = m0 ∧ secDecodeOf k 1#2 = m1 ∧ secDecodeOf k 2#2 = m2 ∧
        secDecodeOf k 3#2 = m3 := by decide
  have hmem (m : SecMode) : m ∈ [SecMode.unknown, .sealed, .unsealed, .fullAccess] := by cases m <;> decide
  exact hall m0 (hmem m0) m1 (hmem m1) m2 (hmem m2) m3 (hmem m3) h

/-- A function that gives each mode one code gives no two codes the same mode. -/
theorem ne_of_one_code {f : BitVec 2 → SecMode} (hf : ∀ m, ∃ c, f c = m ∧ ∀ d, f d = m → d = c)
    {c d : BitVec 2} (h : c ≠ d) : f c ≠ f d := by
  intro heq
  obtain ⟨e, -, huniq⟩ := hf (f d)
  exact h ((huniq c heq).trans (huniq d rfl).symm)

/-- Settles O60: each listed function gives each mode one code, and the modes of the four codes under an
admissible function differ from each other. -/
theorem secDecodeGivesEachModeOneCode : Obligations.SecDecodeGivesEachModeOneCode := by
  refine ⟨secDecodeOf_bijective, fun f hf => ?_, _, fun _ => rfl⟩
  have hne {c d : BitVec 2} (h : c ≠ d) := ne_of_one_code hf h
  obtain ⟨k, h0, h1, h2, h3⟩ := exists_secDecodeOf_of_ne (f 0#2) (f 1#2) (f 2#2) (f 3#2)
    ⟨hne (by decide), hne (by decide), hne (by decide), hne (by decide), hne (by decide), hne (by decide)⟩
  have hcodes : ∀ c : BitVec 2, c = 0#2 ∨ c = 1#2 ∨ c = 2#2 ∨ c = 3#2 := by decide
  refine ⟨k, fun c => ?_⟩
  rcases hcodes c with rfl | rfl | rfl | rfl
  exacts [h0.symm, h1.symm, h2.symm, h3.symm]

/-! ### What the host reads (R36, R37) -/

theorem State.hostRead_of_busy {s : State} (h : s.ph ≠ .idle) (r : HostReg) (hr : r ≠ .ready) :
    s.hostRead r = none := by
  simp [State.hostRead, State.ready, h, hr]

theorem State.hostRead_ready_of_busy {s : State} (h : s.ph ≠ .idle) : s.hostRead .ready = some 0#16 := by
  simp [State.hostRead, State.regValue, State.ready, h]

theorem State.hostRead_of_idle {s : State} (h : s.ph = .idle) (r : HostReg) :
    s.hostRead r = some (s.regValue r) := by
  simp [State.hostRead, State.ready, h]

/-- A bit shown as a register. -/
theorem ofBool_setWidth_toNat (b : Bool) : ((BitVec.ofBool b).setWidth 16).toNat = b.toNat := by
  cases b <;> rfl

/-- A bit of the status word in numbers (R160). -/
theorem getLsbD_toNat (w : Half) (i : Nat) : (w.getLsbD i).toNat = w.toNat / 2 ^ i % 2 :=
  Nat.toNat_testBit w.toNat i

/-- FLAGS in numbers: LENBAD is bit 1 and M bit 0 (R32). -/
theorem State.flags_toNat (s : State) : s.flags.toNat = 2 * s.flagLenbad.toNat + s.flagM.toNat := by
  have h : ∀ f : BitVec 2, f.toNat = 2 * (f.getLsbD 1).toNat + (f.getLsbD 0).toNat := by decide
  exact h s.flags

/-- The register code of a mode in numbers (R28). -/
theorem modeCode_setWidth_toNat (m : SecMode) : ((modeCode m).setWidth 16).toNat = match m with
    | .unknown => 0
    | .sealed => 1
    | .unsealed => 2
    | .fullAccess => 3 := by cases m <;> rfl

/-- Settles O49: the ready host reads each register's number, which a zero extension keeps, and the busy host
reads `ready` alone. -/
theorem viewsDecodeTheStatusWord : Obligations.ViewsDecodeTheStatusWord := by
  refine fun s => ⟨fun hbusy => ⟨State.hostRead_ready_of_busy hbusy, State.hostRead_of_busy hbusy⟩,
    fun hidle => ?_⟩
  have hread {r : HostReg} {n : Nat} (h : (s.regValue r).toNat = n) :
      (s.hostRead r).map BitVec.toNat = some n := by
    rw [State.hostRead_of_idle hidle, Option.map_some, h]
  have hwide {n : Nat} (v : BitVec n) (h : n ≤ 16) : (v.setWidth 16).toNat = v.toNat :=
    BitVec.toNat_setWidth_of_le h
  refine ⟨?_, hread rfl, hread (hwide s.len (by decide)), hread rfl, hread rfl, hread (hwide s.acc (by decide)),
    hread (hwide s.csum (by decide)), hread rfl, hread (modeCode_setWidth_toNat s.secmode),
    hread (hwide s.res (by decide)), hread (hwide s.rerr (by decide)), hread (hwide s.rlen (by decide)),
    hread ((hwide s.flags (by decide)).trans s.flags_toNat), hread ?_, hread ?_, hread ?_, hread ?_, hread ?_⟩
  · rw [State.hostRead_of_idle hidle, State.regValue, State.ready, hidle]
    rfl
  · have hbit := getLsbD_toNat s.stat 0
    rw [Nat.pow_zero, Nat.div_one] at hbit
    exact (ofBool_setWidth_toNat s.statRun).trans hbit
  · exact (ofBool_setWidth_toNat s.statInit).trans (getLsbD_toNat s.stat 7)
  · rw [State.regValue, hwide _ (by decide), State.statSec_eq, BitVec.toNat_ofNat]
    exact Nat.mod_mod _ 4
  · have hlt := s.stat.isLt
    have hbit := (ofBool_setWidth_toNat s.statXmfail).trans (getLsbD_toNat s.stat 15)
    rw [Nat.mod_eq_of_lt (by omega)] at hbit
    exact hbit
  · rw [← State.statSec_eq]
    exact modeCode_setWidth_toNat (secDecode s.statSec)

end Sys2Proof.Machine
end

section
/-! The pseudo-instructions (R99): each runs its expansion, one step for each command. -/

namespace Sys2Proof.Machine

/-! ### Runs of commands -/

/-- A presented command takes one step of a run. -/
theorem State.after_succ_of_presents {s t : State} {i : Instr} {rest : List Word} (n : Nat)
    (h : s.presents i rest) (hexec : exec i s = .next t) : s.after (n + 1) = t.after n :=
  State.after_succ n ((step_of_presents h).trans hexec)

@[simp] theorem State.after_zero (s : State) : s.after 0 = .next s := rfl

/-! ### PAYWR and PAYRD -/

/-- The buffer index of payload byte `i`, as an operand. -/
theorem payload_index_toNat {i : Nat} (h : i ≤ 31) : (BitVec.ofNat 8 (i + 2)).toNat = i + 2 := by
  rw [BitVec.toNat_ofNat]
  omega

/-- Settles O23: payload byte `i` stands at index `i + 2`, which is at most 33 for the indices that are well
formed. -/
theorem payloadPseudosReachThePayload : Obligations.PayloadPseudosReachThePayload := by
  refine fun i b => ⟨fun hi => ?_, fun hi => ?_⟩
  · have hindex := payload_index_toNat hi
    have hle : (BitVec.ofNat 8 (i + 2)).toNat ≤ 35 := by omega
    refine ⟨decide_eq_true hi, decide_eq_true hi, fun s => ⟨?_, ?_⟩⟩
    · refine ⟨_, _, rfl, exec_bufwr_of_le b s hle, ?_, rfl⟩
      rw [State.succeed_bufByte, hindex, State.setBufByte_bufByte_same]
    · refine ⟨_, _, rfl, exec_bufrd_of_le s hle, ?_, rfl⟩
      rw [State.succeed_out, State.setOut_out, hindex]
  · have hno : ¬ i ≤ 31 := Nat.not_le_of_lt hi
    exact ⟨decide_eq_false hno, decide_eq_false hno⟩

/-! ### CKSUM -/

/-- CKADD for each byte, then CKFIN, from any ACC: ACC adds the sequence up, and CSUM and OUT get its
complement. -/
theorem State.after_ckadds_ckfin (bs : List Byte) (rest : List Word) (s : State) (hidle : s.ph = .idle)
    (hw : s.hostWords = (bs.map Instr.ckadd ++ [Instr.ckfin]).map encode ++ rest) :
    s.after (bs.length + 1) = .next { s with
      acc := s.acc + sumBytes bs, csum := 0xFF#8 - (s.acc + sumBytes bs)
      out := (0xFF#8 - (s.acc + sumBytes bs)).setWidth 16, res := 0x00#8, hostWords := rest } := by
  induction bs generalizing s with
  | nil =>
    rw [List.length_nil, State.after_succ_of_presents 0 ⟨hidle, hw⟩ (exec_ckfin s), State.after_zero,
      State.succeed_eq, State.deliver_eq, hw, sumBytes_nil, BitVec.add_zero]
    rfl
  | cons b bs ih =>
    rw [List.length_cons, State.after_succ_of_presents _ ⟨hidle, hw⟩ (exec_ckadd b s), ih]
    · rw [sumBytes_cons, ← BitVec.add_assoc]
      rfl
    · exact hidle
    · simp [hw]

/-- Settles O22: CKCLR starts the sum at 0. -/
theorem cksumExpansionComputesTheChecksum : Obligations.CksumExpansionComputesTheChecksum := by
  intro bs rest s hidle hw
  rw [State.after_succ_of_presents _ ⟨hidle, hw⟩ (exec_ckclr s), State.after_ckadds_ckfin bs rest]
  · rw [State.succeed_acc, State.setAcc_acc, BitVec.zero_add]
    rfl
  · exact hidle
  · simp [hw, Pseudo.expand]

/-! ### WAITINIT -/

/-- The compare under the mask 0x0080 is bit 7 of the status word (R163). -/
theorem decide_and_0x80_eq (w : Half) : decide (w &&& 0x0080#16 = 0x0080#16) = w.getLsbD 7 := by
  have hmask : 0x0080#16 = BitVec.twoPow 16 7 := rfl
  rw [hmask, BitVec.and_twoPow]
  cases w.getLsbD 7 <;> decide

/-- Settles O50: SETMASK, the status read, and the compare of bit 7 alone. -/
theorem waitinitPollsInitComplete : Obligations.WaitinitPollsInitComplete := by
  intro s rest data st hidle hw hans
  have hmask : s.presents (.setmask 0x0080#16) (encode .stget :: encode (.sttest 0x0080#16) :: rest) :=
    ⟨hidle, hw⟩
  have hget : (s.setMask 0x0080#16).succeed.presents .stget (encode (.sttest 0x0080#16) :: rest) :=
    ⟨hidle, by simp [hmask.2]⟩
  have htest : (((((s.setMask 0x0080#16).succeed.setStatusIn st).logEvent
      (.tr Config.regControl [] 2 (.ok data))).setStat (statusOf data)).succeed).presents
        (.sttest 0x0080#16) rest := ⟨hidle, by simp [hmask.2]⟩
  have hrun := (State.after_succ_of_presents 2 hmask (exec_setmask _ s)).trans
    ((State.after_succ_of_presents 1 hget (exec_stget_of_ok hans)).trans
      (State.after_succ_of_presents 0 htest (exec_sttest _ _)))
  refine ⟨_, hrun, ?_, rfl, rfl, rfl, ?_, ?_⟩
  · rw [State.succeed_flagM, State.setM_flagM]
    exact decide_and_0x80_eq (statusOf data)
  · simp [hmask.2]
  · simp

end Sys2Proof.Machine
end

section
/-! The entry of the transfers and the implicit unseal (R141, R142): one equation per case, with the whole state. -/

namespace Sys2Proof

theorem encode_xmwrite_toNat : (encode .xmwrite).toNat = 0x22000000 := pack_zero_imm_toNat 0x22#8 0#8

theorem encode_xmread_toNat : (encode .xmread).toNat = 0x23000000 := pack_zero_imm_toNat 0x23#8 0#8

end Sys2Proof

namespace Sys2Proof.Machine

/-! ### The entry (R141) -/

theorem State.enterTransfer_of_not_argsInRange {s : State} (sec body : Phase) (h : ¬ s.argsInRange) :
    s.enterTransfer sec body = { s with res := 0x02#8, hostWords := s.hostWords.tail } := by
  rw [State.enterTransfer, if_neg (mt s.argsOk_iff_argsInRange.mp h), State.raise_eq, ResultKind.code]

theorem State.enterTransfer_of_unknown {s : State} (sec body : Phase) (h : s.argsInRange)
    (hmode : s.secmode = .unknown) :
    s.enterTransfer sec body = { s with res := 0x03#8, hostWords := s.hostWords.tail } := by
  rw [State.enterTransfer, if_pos (s.argsOk_iff_argsInRange.mpr h), if_pos hmode, State.raise_eq,
    ResultKind.code]

/-- The whole state in which a transfer starts at the phase `p`. -/
def State.entered (s : State) (p : Phase) : State :=
  { s with rerr := 0x00#8, orig := s.secmode, chg := false, e := 0x00#8, ph := p,
           hostWords := s.hostWords.tail }

theorem State.accept_beginTransfer_setPh_eq (s : State) (p : Phase) :
    s.accept.beginTransfer.setPh p = s.entered p := by
  simp only [State.entered, State.setPh, State.beginTransfer, State.setE, State.setChg, State.setOrig,
    State.setRerr, State.accept, State.setHostWords]

theorem State.enterTransfer_of_sealed {s : State} (sec body : Phase) (h : s.argsInRange)
    (hmode : s.secmode = .sealed) : s.enterTransfer sec body = s.entered sec := by
  rw [State.enterTransfer, if_pos (s.argsOk_iff_argsInRange.mpr h), if_neg (by simp [hmode]), if_pos hmode,
    State.accept_beginTransfer_setPh_eq]

theorem State.enterTransfer_of_unsealed {s : State} (sec body : Phase) (h : s.argsInRange)
    (hmode : s.secmode = .unsealed ∨ s.secmode = .fullAccess) : s.enterTransfer sec body = s.entered body := by
  have hno : s.secmode ≠ .unknown ∧ s.secmode ≠ .sealed := by rcases hmode with hm | hm <;> simp [hm]
  rw [State.enterTransfer, if_pos (s.argsOk_iff_argsInRange.mpr h), if_neg hno.1, if_neg hno.2,
    State.accept_beginTransfer_setPh_eq]

/-- Settles O29: the four cases of the entry. -/
theorem xmwriteEntry : Obligations.XmwriteEntry := by
  refine ⟨encode_xmwrite_toNat, fun s => ⟨fun hargs => ?_, fun hargs hm => ?_, fun hargs hm => ?_,
    fun hargs hm => ?_⟩⟩ <;> rw [exec_xmwrite]
  · rw [State.enterTransfer_of_not_argsInRange _ _ hargs]
  · rw [State.enterTransfer_of_unknown _ _ hargs hm]
  · rw [State.enterTransfer_of_sealed _ _ hargs hm, State.entered, hm]
  · rw [State.enterTransfer_of_unsealed _ _ hargs hm, State.entered]

/-- Settles O30: the same four cases, from the state with RLEN and LENBAD cleared. -/
theorem xmreadEntry : Obligations.XmreadEntry := by
  refine ⟨encode_xmread_toNat, fun s => ⟨fun hargs => ?_, fun hargs hm => ?_, fun hargs hm => ?_,
    fun hargs hm => ?_⟩⟩ <;> rw [exec_xmread]
  · rw [State.enterTransfer_of_not_argsInRange _ _ (s := s.clearResult) hargs, State.clearResult_eq]
  · rw [State.enterTransfer_of_unknown _ _ (s := s.clearResult) hargs hm, State.clearResult_eq]
  · rw [State.enterTransfer_of_sealed _ _ (s := s.clearResult) hargs hm, State.entered, State.clearResult_eq, hm]
  · rw [State.enterTransfer_of_unsealed _ _ (s := s.clearResult) hargs hm, State.entered, State.clearResult_eq]

/-! ### The implicit unseal (R142) -/

theorem step_of_wSec {s : State} (h : s.ph = .wSec) : step s = .next (phaseSec .wFrame s) := by
  rw [step_of_busy (by simp [h]), runPhase, h]

theorem step_of_rSec {s : State} (h : s.ph = .rSec) : step s = .next (phaseSec .rAddr s) := by
  rw [step_of_busy (by simp [h]), runPhase, h]

/-- The whole state after an unseal that got an ok. -/
theorem phaseSec_of_ok {s : State} {rest : List SecAnswer} (body : Phase) (h : s.secIn = .ok :: rest) :
    phaseSec body s = { s with secmode := .unsealed, chg := true, ph := body, secIn := rest,
                               history := s.history ++ [.secreq .unsealed .ok] } := by
  have hcases := phaseSec_cases body s
  simp only [h] at hcases
  simpa [State.setPh, State.setChg, State.setSecmode, State.logEvent, State.setHistory, State.setSecIn] using
    hcases

/-- The whole state after an unseal that failed. -/
theorem phaseSec_of_err {s : State} {c : ErrCode} {rest : List SecAnswer} (body : Phase)
    (h : s.secIn = .err c :: rest) :
    phaseSec body s = { s with res := c.code, ph := .idle, secIn := rest,
                               history := s.history ++ [.secreq .unsealed (.err c)] } := by
  have hcases := phaseSec_cases body s
  simp only [h] at hcases
  simpa [State.endTransfer, State.setPh, State.setRes, State.logEvent, State.setHistory, State.setSecIn] using
    hcases

/-- Settles O31: both phases are one, with different bodies to go on to. -/
theorem implicitUnsealPhase : Obligations.ImplicitUnsealPhase := by
  refine fun s rest c => ⟨fun hph hok => ?_, fun hph hok => ?_, fun hph herr => ?_⟩
  · rw [step_of_wSec hph, phaseSec_of_ok _ hok]
  · rw [step_of_rSec hph, phaseSec_of_ok _ hok]
  · rcases hph with hph | hph
    · rw [step_of_wSec hph, phaseSec_of_err _ herr]
    · rw [step_of_rSec hph, phaseSec_of_err _ herr]

end Sys2Proof.Machine
end

section
/-! Composition against validation (R121, R136): what the validation reads of a frame, that a composed frame passes
it, and that one changed byte makes it fail. -/

namespace Sys2Proof.Machine

/-! ### What the validation reads (R121, R134) -/

/-- The two frames agree where the validation reads them: the address bytes, the bytes that the length byte
covers, the checksum byte and the length byte. -/
structure State.FrameAgrees (s t : State) : Prop where
  addr : t.addr = s.addr
  echo : t.bufByte 0 = s.bufByte 0 ∧ t.bufByte 1 = s.bufByte 1
  covered : ∀ i < 36, i < s.frameL - 2 → t.bufByte i = s.bufByte i
  checksumByte : t.bufByte 34 = s.bufByte 34
  lengthByte : t.bufByte 35 = s.bufByte 35

section FrameAgrees
variable {s t : State} (h : s.FrameAgrees t)
include h

theorem State.FrameAgrees.echoOk_iff : t.echoOk ↔ s.echoOk := by
  simp only [State.echoOk, State.lowAddr, State.highAddr, h.echo, h.addr]

theorem State.FrameAgrees.frameL_eq : t.frameL = s.frameL := by
  rw [State.frameL, h.lengthByte, State.frameL]

theorem State.FrameAgrees.lengthOk_iff : t.lengthOk ↔ s.lengthOk := by
  rw [State.lengthOk, h.frameL_eq, State.lengthOk]

/-- A possible length byte covers at most the 34 bytes before the trailer (R121). -/
theorem State.FrameAgrees.frameSum_eq (hlen : s.lengthOk) : t.frameSum = s.frameSum := by
  obtain ⟨-, hle⟩ := hlen
  simp only [State.frameSum, h.frameL_eq]
  congr 1
  refine List.map_congr_left fun i hi => ?_
  have hi' := List.mem_range.mp hi
  exact h.covered i (by omega) hi'

end FrameAgrees

/-- Settles O28: each of the five ends of XMVAL is reached from both states or from neither, and names the same
values. -/
theorem paddingNeverInfluencesValidation : Obligations.PaddingNeverInfluencesValidation := by
  rintro s t b rfl hagree
  have h : s.FrameAgrees { s with buf := b } :=
    ⟨rfl, ⟨hagree 0 (by decide) (by simp), hagree 1 (by decide) (by simp)⟩,
      fun i hi hcov => hagree i hi (.inr (.inl hcov)), hagree 34 (by decide) (by simp),
      hagree 35 (by decide) (by simp)⟩
  obtain ⟨-, hval⟩ := xmvalValidatesTheFrame
  obtain ⟨hs1, hs2, hs3, hs4, hs5⟩ := hval s
  obtain ⟨ht1, ht2, ht3, ht4, ht5⟩ := hval { s with buf := b }
  by_cases hargs : s.argsInRange
  · by_cases hecho : s.echoOk
    · have hecho' := h.echoOk_iff.mpr hecho
      by_cases hlen : s.lengthOk
      · have hlen' := h.lengthOk_iff.mpr hlen
        have hsum := h.frameSum_eq hlen
        have heff : State.effectiveLength { s with buf := b } = s.effectiveLength := by
          rw [State.effectiveLength, h.frameL_eq, State.effectiveLength]
        by_cases hok : s.frameSum = s.bufByte 34
        · refine ⟨_, _, hs5 hargs hecho hlen hok, ht5 hargs hecho' hlen' ?_, ?_⟩
          · rw [hsum, h.checksumByte, hok]
          · rw [hsum, heff]
        · refine ⟨_, _, hs4 hargs hecho hlen hok, ht4 hargs hecho' hlen' ?_, ?_⟩
          · rwa [hsum, h.checksumByte]
          · rw [hsum]
      · exact ⟨_, _, hs3 hargs hecho hlen, ht3 hargs hecho' (mt h.lengthOk_iff.mp hlen), rfl⟩
    · exact ⟨_, _, hs2 hargs hecho, ht2 hargs (mt h.echoOk_iff.mp hecho), rfl⟩
  · exact ⟨_, _, hs1 hargs, ht1 hargs, rfl⟩

/-! ### What composing leaves, as the validation reads it (R133, R136) -/

/-- The composed frame of `s`, as the bytes that its length byte covers and its trailer. -/
structure State.Composed (s t : State) : Prop where
  low : t.bufByte 0 = s.lowAddr
  high : t.bufByte 1 = s.highAddr
  head : (List.range (s.len.toNat + 2)).map t.bufByte = s.writeHead
  checksumByte : t.bufByte 34 = checksum s.writeHead
  lengthByte : (t.bufByte 35).toNat = s.len.toNat + 4
  csum : t.csum = checksum s.writeHead

theorem State.composed_of_exec {s t : State} (hargs : s.argsInRange) (h : exec .xmcomp s = .next t) :
    s.Composed t := by
  obtain ⟨t', hexec, ht, hlow, hhigh, hchecksum, hlength, hkeep⟩ := (xmcompComposesTheFrame.2 s).1 hargs
  obtain rfl : t' = t := by simpa [hexec] using h
  have hcsum : t'.csum = checksum s.writeHead := congrArg State.csum ht
  have hle := hargs.2.2
  refine ⟨hlow, hhigh, ?_, hchecksum, hlength, hcsum⟩
  rw [List.range_succ_eq_map, List.range_succ_eq_map]
  simp only [List.map_cons, List.map_map, State.writeHead, State.payload]
  refine congrArg₂ List.cons hlow (congrArg₂ List.cons hhigh (List.map_congr_left fun i hi => ?_))
  have hi' := List.mem_range.mp hi
  exact hkeep _ (by simp) (by simp) (by simp; omega) (by simp; omega)

/-- Two sequences that agree but at index `j`: the one is the other with its byte at `j` replaced. -/
theorem map_range_eq_set {f g : Nat → Byte} {n j : Nat} (h : ∀ i < n, i ≠ j → f i = g i) :
    (List.range n).map f = ((List.range n).map g).set j (f j) := by
  refine List.ext_getElem (by simp) fun i hi _ => ?_
  have hin : i < n := by simpa using hi
  rw [List.getElem_set]
  split_ifs with hij
  · simp [hij]
  · simpa using h i hin (Ne.symm hij)

section Composed
variable {s t u : State} (h : s.Composed t)
include h

theorem State.Composed.lengthOk (hargs : s.argsInRange) (hl : u.bufByte 35 = t.bufByte 35) : u.lengthOk := by
  have hlen := hargs.2
  have hlength := h.lengthByte
  rw [State.lengthOk, State.frameL, hl]
  omega

theorem State.Composed.frameL_eq (hl : u.bufByte 35 = t.bufByte 35) : u.frameL = s.len.toNat + 4 := by
  rw [State.frameL, hl, h.lengthByte]

theorem State.Composed.frameSum_eq (hl : u.bufByte 35 = t.bufByte 35) :
    u.frameSum = checksum ((List.range (s.len.toNat + 2)).map u.bufByte) := by
  rw [State.frameSum, h.frameL_eq hl]
  rfl

theorem State.Composed.echoOk (haddr : u.addr = s.addr) (h0 : u.bufByte 0 = t.bufByte 0)
    (h1 : u.bufByte 1 = t.bufByte 1) : u.echoOk := by
  rw [State.echoOk, State.lowAddr, State.highAddr, haddr, h0, h1]
  exact ⟨h.low, h.high⟩

/-- A changed address byte no longer echoes ADDR. -/
theorem State.Composed.not_echoOk {j : Nat} (haddr : u.addr = s.addr) (hj : j < 2)
    (hne : u.bufByte j ≠ t.bufByte j) : ¬ u.echoOk := by
  rw [State.echoOk, State.lowAddr, State.highAddr, haddr]
  rintro ⟨hlow, hhigh⟩
  interval_cases j
  · exact hne (hlow.trans h.low.symm)
  · exact hne (hhigh.trans h.high.symm)

/-- The covered range of a composed frame is the write's head. -/
theorem State.Composed.frameSum_of_kept (hl : u.bufByte 35 = t.bufByte 35)
    (hkeep : ∀ i < s.len.toNat + 2, u.bufByte i = t.bufByte i) : u.frameSum = checksum s.writeHead := by
  rw [h.frameSum_eq hl, ← h.head]
  congr 1
  exact List.map_congr_left fun i hi => hkeep i (List.mem_range.mp hi)

/-- One changed byte of the covered range changes its checksum (R127). -/
theorem State.Composed.frameSum_ne {j : Nat} (hl : u.bufByte 35 = t.bufByte 35) (hj : j < s.len.toNat + 2)
    (hne : u.bufByte j ≠ t.bufByte j) (hkeep : ∀ i < s.len.toNat + 2, i ≠ j → u.bufByte i = t.bufByte i) :
    u.frameSum ≠ checksum s.writeHead := by
  rw [h.frameSum_eq hl, ← h.head, map_range_eq_set hkeep]
  exact checksum_set_ne (by simpa using hj) (by simpa using hne)

end Composed

/-- LENBAD is clear once FLAGS is masked to M (R32). -/
theorem getLsbD_and_one (f : BitVec 2) : (f &&& 1#2).getLsbD 1 = false := by
  revert f
  decide

/-- Settles O26: the address bytes echo, the length byte is possible, and the covered range is the write's head,
whose checksum stands at 34. -/
theorem composedFrameValidates : Obligations.ComposedFrameValidates := by
  intro s t u hargs hexec haddr hlo hhi hkeep
  have h := State.composed_of_exec hargs hexec
  have hle := hargs.2.2
  have hargs' : u.argsInRange := ⟨haddr ▸ hargs.1, hlo, hhi⟩
  have h34 := hkeep 34 (by decide) (by simp)
  have h35 := hkeep 35 (by decide) (by simp)
  have hecho : u.echoOk := h.echoOk haddr (hkeep 0 (by decide) (by simp)) (hkeep 1 (by decide) (by simp))
  have hsum : u.frameSum = checksum s.writeHead :=
    h.frameSum_of_kept h35 fun i hi => hkeep i (by omega) (.inl hi)
  obtain ⟨-, -, -, -, hpass⟩ := xmvalValidatesTheFrame.2 u
  refine ⟨_, hpass hargs' hecho (h.lengthOk hargs h35) ?_, rfl, ?_, ?_, getLsbD_and_one u.flags⟩
  · rw [hsum, h34, h.checksumByte]
  · simp only [State.effectiveLength, h.frameL_eq h35, BitVec.toNat_ofNat]
    omega
  · simp only [hsum, h.csum]

/-- Settles O27: a changed address byte breaks the echo; any other changed byte leaves the checksum over the
covered range different from the byte at 34. -/
theorem tamperedFrameIsRejected : Obligations.TamperedFrameIsRejected := by
  intro s t u j hargs hexec haddr hlo hhi hj hne hkeep
  have h := State.composed_of_exec hargs hexec
  have hle := hargs.2.2
  have hargs' : u.argsInRange := ⟨haddr ▸ hargs.1, hlo, hhi⟩
  obtain ⟨-, hnoEcho, -, hnoSum, -⟩ := xmvalValidatesTheFrame.2 u
  by_cases hj2 : j < 2
  · have hecho : ¬ u.echoOk := h.not_echoOk haddr hj2 hne
    exact ⟨_, hnoEcho hargs' hecho, rfl, getLsbD_and_one u.flags, (if_pos hj2).symm⟩
  · have h35 := hkeep 35 (by decide) (by omega) (by simp)
    have hecho : u.echoOk :=
      h.echoOk haddr (hkeep 0 (by decide) (by omega) (by simp)) (hkeep 1 (by decide) (by omega) (by simp))
    have hsum : u.frameSum ≠ u.bufByte 34 := by
      rcases hj with hj | rfl
      · rw [hkeep 34 (by decide) (by omega) (by simp), h.checksumByte]
        exact h.frameSum_ne h35 hj hne fun i hi hij => hkeep i (by omega) hij (.inl hi)
      · rw [h.frameSum_of_kept h35 fun i hi => hkeep i (by omega) (by omega) (.inl hi), ← h.checksumByte]
        exact hne.symm
    exact ⟨_, hnoSum hargs' hecho (h.lengthOk hargs h35) hsum, rfl, getLsbD_and_one u.flags, (if_neg hj2).symm⟩

end Sys2Proof.Machine
end

section
/-! A transfer ends (R203, R207): from every phase with the answers to come that its remaining events need, each
step brings PH nearer to IDLE. -/

namespace Sys2Proof.Machine

/-- The most steps from a phase to IDLE (R140). -/
def Phase.stepsLeft : Phase → Nat
  | .idle => 0
  | .wSec => 7
  | .wFrame => 6
  | .wDly1 => 5
  | .wSum => 4
  | .wDly2 => 3
  | .wStat => 2
  | .rSec => 5
  | .rAddr => 4
  | .rFrame => 3
  | .rVal => 2
  | .xRest => 1

/-- How many answers of each port are asked for from a phase to IDLE, at most. -/
structure Needs where
  sec : Nat
  tw : Nat
  status : Nat
  frame : Nat
  sleep : Nat

/-- The answers asked for from each phase on (R142 to R155). -/
def Phase.needs : Phase → Needs
  | .idle => ⟨0, 0, 0, 0, 0⟩
  | .wSec => ⟨2, 2, 1, 0, 2⟩
  | .wFrame => ⟨1, 2, 1, 0, 2⟩
  | .wDly1 => ⟨1, 1, 1, 0, 2⟩
  | .wSum => ⟨1, 1, 1, 0, 1⟩
  | .wDly2 => ⟨1, 0, 1, 0, 1⟩
  | .wStat => ⟨1, 0, 1, 0, 0⟩
  | .rSec => ⟨2, 1, 0, 1, 0⟩
  | .rAddr => ⟨1, 1, 0, 1, 0⟩
  | .rFrame => ⟨1, 0, 0, 1, 0⟩
  | .rVal => ⟨1, 0, 0, 0, 0⟩
  | .xRest => ⟨1, 0, 0, 0, 0⟩

/-- The queues hold the answers that the phases to come ask for. -/
def State.supplied (s : State) : Prop :=
  s.ph.needs.sec ≤ s.secIn.length ∧ s.ph.needs.tw ≤ s.twIn.length ∧
    s.ph.needs.status ≤ s.statusIn.length ∧ s.ph.needs.frame ≤ s.frameIn.length ∧ s.ph.needs.sleep ≤ s.sleepIn

/-- The answers of `environmentReady` suffice from every phase. -/
theorem State.environmentReady.supplied {s : State} (h : s.environmentReady) : s.supplied := by
  obtain ⟨hsec, htw, hstatus, hframe, hsleep⟩ := h
  have hmost : ∀ p : Phase, p.needs.sec ≤ 2 ∧ p.needs.tw ≤ 2 ∧ p.needs.status ≤ 1 ∧
      p.needs.frame ≤ 1 ∧ p.needs.sleep ≤ 2 := by
    intro p
    cases p <;> decide
  obtain ⟨hsec', htw', hstatus', hframe', hsleep'⟩ := hmost s.ph
  exact ⟨hsec'.trans hsec, htw'.trans htw, hstatus'.trans hstatus, hframe'.trans hframe, hsleep'.trans hsleep⟩

/-- Every phase that asks for an answer needs one of its port. -/
theorem State.supplied.answered {s : State} (h : s.supplied) : s.answered = true := by
  have hsome {α : Type} {l : List α} {n : Nat} (hl : n + 1 ≤ l.length) : (!l.isEmpty) = true := by
    cases l <;> simp at hl ⊢
  obtain ⟨hsec, htw, hstatus, hframe, hsleep⟩ := h
  rw [State.answered]
  cases hph : s.ph <;> rw [hph] at hsec htw hstatus hframe hsleep
  case wSec => exact hsome hsec
  case wFrame => exact hsome htw
  case wDly1 => exact decide_eq_true (Nat.lt_of_lt_of_le (by decide) hsleep)
  case wSum => exact hsome htw
  case wDly2 => exact decide_eq_true (Nat.lt_of_lt_of_le (by decide) hsleep)
  case wStat => exact hsome hstatus
  case rSec => exact hsome hsec
  case rAddr => exact hsome htw
  case rFrame => exact hsome hframe
  case xRest => exact Bool.or_eq_true_iff.mpr (.inr (hsome hsec))

/-- With its answers to come a phase moves on towards IDLE, and leaves the answers that are still needed. -/
theorem PhaseEffect.progress {s t : State} (heff : PhaseEffect s t) (h : s.supplied) :
    t.supplied ∧ t.ph.stepsLeft < s.ph.stepsLeft := by
  have hans := h.answered
  unfold State.supplied at h ⊢
  cases heff with
  | waits hno => simp [hno] at hans
  | unseals body rest hph hq =>
    rcases hph with ⟨hp, rfl⟩ | ⟨hp, rfl⟩ <;> simp_all [Phase.needs, Phase.stepsLeft]
  | unsealFails c rest hph => rcases hph with hp | hp <;> simp [hp, Phase.needs, Phase.stepsLeft]
  | settles after n hph hq =>
    rcases hph with ⟨hp, rfl⟩ | ⟨hp, rfl⟩ <;> simp_all [Phase.needs, Phase.stepsLeft]
  | _ => simp_all [Phase.needs, Phase.stepsLeft]

/-- A supplied block is ready after at most the phases that are left, with the words at the port unchanged. -/
theorem State.exists_after_idle {n : Nat} {s : State} (hn : s.ph.stepsLeft ≤ n) (h : s.supplied) :
    ∃ k t, k ≤ n ∧ s.after k = .next t ∧ t.ph = .idle ∧ t.hostWords = s.hostWords := by
  induction n generalizing s with
  | zero =>
    have hidle : s.ph = .idle := by
      revert hn
      cases s.ph <;> decide
    exact ⟨0, s, le_rfl, rfl, hidle, rfl⟩
  | succ n ih =>
    by_cases hidle : s.ph = .idle
    · exact ⟨0, s, Nat.zero_le _, rfl, hidle, rfl⟩
    · have heff := phaseEffect_runPhase hidle
      obtain ⟨hsupplied, hless⟩ := heff.progress h
      obtain ⟨k, t, hk, hrun, ht, hwords⟩ := ih (Nat.le_of_lt_succ (hless.trans_le hn)) hsupplied
      exact ⟨k + 1, t, Nat.succ_le_succ hk, (State.after_succ k (step_of_busy hidle)).trans hrun, ht,
        hwords.trans heff.frame.1⟩

/-- Settles O43: no phase is more than seven steps from IDLE. -/
theorem answeredTransferEnds : Obligations.AnsweredTransferEnds := by
  intro s _ hready
  have hseven : s.ph.stepsLeft ≤ 7 := by cases s.ph <;> decide
  exact State.exists_after_idle hseven hready.supplied

end Sys2Proof.Machine
end

section
/-! Whole transfers (R149, R154 to R157): the body of a write and of a read, run phase by phase for every
combination of answers, and the unseal and the restoration around a body, which the two transfers share. -/

namespace Sys2Proof.Machine

/-! ### The body of a write (R143 to R147) -/

section writeBody
variable {u : State} {tw : List TwAnswer} {st : List (TrAnswer 2)} {n : Nat}

/-- W_FRAME with a head that was sent. -/
theorem step_of_wFrame_ok (hph : u.ph = .wFrame) (htw : u.twIn = .ok :: tw) :
    step u = .next { u with
      buf := u.stampAddress.buf, twIn := tw, ph := .wDly1
      history := u.history ++ [.tw Config.regMac u.writeHead .ok] } := by
  rw [step_of_wFrame hph, phaseWFrame_of_answer htw]
  simp [State.afterTw_ok_eq]

/-- W_FRAME with a head that was not sent. -/
theorem step_of_wFrame_ioError (hph : u.ph = .wFrame) (htw : u.twIn = .ioError :: tw) :
    step u = .next { u with
      buf := u.stampAddress.buf, twIn := tw, ph := .xRest, e := 0x01#8
      history := u.history ++ [.tw Config.regMac u.writeHead .ioError] } := by
  rw [step_of_wFrame hph, phaseWFrame_of_answer htw]
  simp [State.afterTw_ioError_eq]

/-- W_FRAME and the settle delay after it. -/
theorem State.after_head (k : Nat) (hph : u.ph = .wFrame) (htw : u.twIn = .ok :: tw) (hsleep : u.sleepIn = n + 1) :
    u.after (k + 2) = State.after { u with
      buf := u.stampAddress.buf, twIn := tw, sleepIn := n, ph := .wSum
      history := u.history ++ [.tw Config.regMac u.writeHead .ok, .sleep tSettle] } k := by
  rw [State.after_succ _ (step_of_wFrame_ok hph htw)]
  refine (State.after_succ k ((settleDelayPhases.2 _ n ?_).1 rfl)).trans ?_
  · exact hsleep
  · simp only [List.append_assoc, List.cons_append, List.nil_append]

/-- W_SUM with a trailer that was sent. -/
theorem step_of_wSum_ok (hph : u.ph = .wSum) (htw : u.twIn = .ok :: tw) :
    step u = .next { u with
      buf := u.stampTrailer.buf, csum := checksum u.frameHead, twIn := tw, ph := .wDly2
      history := u.history ++ [.tw Config.regMacSum [checksum u.frameHead, u.lengthByte] .ok] } := by
  rw [step_of_wSum hph, phaseWSum_of_answer htw]
  simp [State.afterTw_ok_eq]

/-- W_SUM with a trailer that was not sent. -/
theorem step_of_wSum_ioError (hph : u.ph = .wSum) (htw : u.twIn = .ioError :: tw) :
    step u = .next { u with
      buf := u.stampTrailer.buf, csum := checksum u.frameHead, twIn := tw, ph := .xRest, e := 0x01#8
      history := u.history ++ [.tw Config.regMacSum [checksum u.frameHead, u.lengthByte] .ioError] } := by
  rw [step_of_wSum hph, phaseWSum_of_answer htw]
  simp [State.afterTw_ioError_eq]

/-- W_SUM and the settle delay after it. -/
theorem State.after_trailer (k : Nat) (hph : u.ph = .wSum) (htw : u.twIn = .ok :: tw)
    (hsleep : u.sleepIn = n + 1) :
    u.after (k + 2) = State.after { u with
      buf := u.stampTrailer.buf, csum := checksum u.frameHead, twIn := tw, sleepIn := n, ph := .wStat
      history := u.history ++
        [.tw Config.regMacSum [checksum u.frameHead, u.lengthByte] .ok, .sleep tSettle] } k := by
  rw [State.after_succ _ (step_of_wSum_ok hph htw)]
  refine (State.after_succ k ((settleDelayPhases.2 _ n ?_).2 rfl)).trans ?_
  · exact hsleep
  · simp only [List.append_assoc, List.cons_append, List.nil_append]

/-- W_STAT without an answer's bytes. -/
theorem step_of_wStat_ioError (hph : u.ph = .wStat) (hst : u.statusIn = .ioError :: st) :
    step u = .next { u with
      statusIn := st, ph := .xRest, e := 0x01#8
      history := u.history ++ [.tr Config.regControl [] 2 .ioError] } := by
  rw [step_of_wStat hph, phaseWStat_of_ioError hst, State.leaveBody_eq]
  rfl

/-- Once the head is stored, the head that the buffer holds is the write's. -/
theorem State.frameHead_of_headStored {v : State} (hbuf : v.buf = u.stampAddress.buf) (hlen : v.len = u.len) :
    v.frameHead = u.writeHead := by
  rw [← State.stampAddress_frameHead_eq]
  simp only [State.frameHead, State.bufBytes, State.stampAddress_len, hlen]
  exact List.map_congr_left fun i _ => by rw [State.bufByte, hbuf, State.bufByte]

/-- Once the head is stored, storing the trailer completes the frame. -/
theorem State.stampTrailer_buf_of_headStored {v : State} (hbuf : v.buf = u.stampAddress.buf)
    (hlen : v.len = u.len) : v.stampTrailer.buf = u.stampAddress.stampTrailer.buf := by
  rw [State.stampTrailer_buf, State.stampTrailer_buf, State.frameHead_of_headStored hbuf hlen,
    State.stampAddress_frameHead_eq, hbuf, State.stampAddress_lengthByte, State.lengthByte, hlen, State.lengthByte]

/-- The head and a trailer that was not sent: the frame is composed in the buffer all the same. -/
theorem State.after_frame_ioError (k : Nat) (hph : u.ph = .wFrame) (htw : u.twIn = .ok :: .ioError :: tw)
    (hsleep : u.sleepIn = n + 1) :
    u.after (k + 3) = State.after { u with
      buf := u.stampAddress.stampTrailer.buf, csum := checksum u.writeHead, twIn := tw, sleepIn := n, ph := .xRest
      e := 0x01#8
      history := u.history ++ [.tw Config.regMac u.writeHead .ok, .sleep tSettle,
        .tw Config.regMacSum u.writeTrailer .ioError] } k := by
  rw [State.after_head (k + 1) hph htw hsleep, State.after_succ k (step_of_wSum_ioError rfl rfl)]
  simp only [List.append_assoc, List.cons_append, List.nil_append]
  rw [State.frameHead_of_headStored (u := u), State.stampTrailer_buf_of_headStored (u := u)] <;> rfl

/-- The head, the trailer and the two settle delays: the frame is composed and sent. -/
theorem State.after_frame (k : Nat) (hph : u.ph = .wFrame) (htw : u.twIn = .ok :: .ok :: tw)
    (hsleep : u.sleepIn = n + 2) :
    u.after (k + 4) = State.after { u with
      buf := u.stampAddress.stampTrailer.buf, csum := checksum u.writeHead, twIn := tw, sleepIn := n, ph := .wStat
      history := u.history ++ [.tw Config.regMac u.writeHead .ok, .sleep tSettle,
        .tw Config.regMacSum u.writeTrailer .ok, .sleep tSettle] } k := by
  rw [State.after_head (k + 2) hph htw hsleep, State.after_trailer k rfl rfl rfl]
  simp only [List.append_assoc, List.cons_append, List.nil_append]
  rw [State.frameHead_of_headStored (u := u), State.stampTrailer_buf_of_headStored (u := u)] <;> rfl

end writeBody

/-! ### What a body leaves (R143 to R152) -/

/-- The end of a body: every field that a body may write, its events, and the code it ends with. -/
structure BodyEnd where
  buf : List Host.Cell
  csum : Byte
  stat : Half
  rlen : Byte
  flags : BitVec 2
  twIn : List TwAnswer
  statusIn : List (TrAnswer 2)
  frameIn : List (TrAnswer 36)
  sleepIn : Nat
  events : List Event
  code : Byte

/-- The state at X_REST after a body that started in `u` (R176). -/
def State.leave (u : State) (r : BodyEnd) : State :=
  { u with
    buf := r.buf, csum := r.csum, stat := r.stat, rlen := r.rlen, flags := r.flags, twIn := r.twIn
    statusIn := r.statusIn, frameIn := r.frameIn, sleepIn := r.sleepIn, ph := .xRest, e := r.code
    history := u.history ++ r.events }

/-- From `u` the body runs to the end `r` in `n` steps. -/
def State.BodyRuns (u : State) (n : Nat) (r : BodyEnd) : Prop := ∀ k, u.after (k + n) = (u.leave r).after k

/-- A body that ended before any of its writes: the fields are those of `u`. -/
def State.untouched (u : State) : BodyEnd where
  buf := u.buf
  csum := u.csum
  stat := u.stat
  rlen := u.rlen
  flags := u.flags
  twIn := u.twIn
  statusIn := u.statusIn
  frameIn := u.frameIn
  sleepIn := u.sleepIn
  events := []
  code := 0x00#8

/-! ### The four bodies of a write (R149, R157) -/

section writeEnds
variable {s t : State}

/-- The body of a write is a matter of the buffer, CSUM and STAT alone. -/
theorem WriteBody.congr {t' : State} {body : List Event} {code : Byte} (h : WriteBody s t body code)
    (heq : t'.buf = t.buf ∧ t'.csum = t.csum ∧ t'.stat = t.stat) : WriteBody s t' body code := by
  obtain ⟨hbuf, hcsum, hstat⟩ := heq
  have hbyte : t'.bufByte = t.bufByte := by
    funext i
    rw [State.bufByte, hbuf, State.bufByte]
  simpa only [WriteBody, State.trailerKept, State.trailerWritten, hbyte, hcsum, hstat] using h

/-- With the head stored and nothing else, the trailer's places and the payload are as they were. -/
theorem State.headStored_bytes (hbuf : t.buf = s.stampAddress.buf) (hcsum : t.csum = s.csum) :
    (t.bufByte 0 = s.lowAddr ∧ t.bufByte 1 = s.highAddr) ∧ s.trailerKept t ∧
      ∀ j, 2 ≤ j → j ≤ 33 → t.bufByte j = s.bufByte j := by
  have hbyte (j : Nat) : t.bufByte j = s.stampAddress.bufByte j := by rw [State.bufByte, hbuf, State.bufByte]
  simp only [State.trailerKept, hbyte, State.stampAddress_bufByte_eq, hcsum]
  refine ⟨by simp, by simp, fun j hlo _ => ?_⟩
  rw [if_neg (by omega), if_neg (by omega)]

/-- With the frame composed, the trailer is written and the payload is as it was. -/
theorem State.framed_bytes (hargs : s.argsInRange) (hbuf : t.buf = s.stampAddress.stampTrailer.buf)
    (hcsum : t.csum = checksum s.writeHead) :
    (t.bufByte 0 = s.lowAddr ∧ t.bufByte 1 = s.highAddr) ∧ s.trailerWritten t ∧
      ∀ j, 2 ≤ j → j ≤ 33 → t.bufByte j = s.bufByte j := by
  have hbyte (j : Nat) : t.bufByte j = s.stampAddress.stampTrailer.bufByte j := by
    rw [State.bufByte, hbuf, State.bufByte]
  have hlen := s.lengthByte_toNat (s.argsOk_iff_argsInRange.mpr hargs)
  simp only [State.trailerWritten, hbyte, State.stampAddress_stampTrailer_bufByte, hcsum]
  refine ⟨by simp, by simp [hlen], fun j hlo hhi => ?_⟩
  rw [if_neg (by omega), if_neg (by omega), if_neg (by omega), if_neg (by omega)]

/-- What the end `r` of a write's body leaves (R157). -/
def State.WriteEnds (s : State) (r : BodyEnd) : Prop :=
  WriteBody s (s.leave r) r.events r.code ∧
    (∀ j, 2 ≤ j → j ≤ 33 → (s.leave r).bufByte j = s.bufByte j) ∧ r.rlen = s.rlen ∧ r.flags = s.flags

/-- The head was not sent. -/
def State.headLost (u : State) (tw : List TwAnswer) : BodyEnd :=
  { u.untouched with
    buf := u.stampAddress.buf, twIn := tw, code := 0x01#8
    events := [.tw Config.regMac u.writeHead .ioError] }

/-- The head was sent, and the trailer was not. -/
def State.trailerLost (u : State) (tw : List TwAnswer) (n : Nat) : BodyEnd :=
  { u.untouched with
    buf := u.stampAddress.stampTrailer.buf, csum := checksum u.writeHead, twIn := tw, sleepIn := n, code := 0x01#8
    events := [.tw Config.regMac u.writeHead .ok, .sleep tSettle, .tw Config.regMacSum u.writeTrailer .ioError] }

/-- The frame was sent, and the status was not read. -/
def State.statusLost (u : State) (tw : List TwAnswer) (st : List (TrAnswer 2)) (n : Nat) : BodyEnd :=
  { u.untouched with
    buf := u.stampAddress.stampTrailer.buf, csum := checksum u.writeHead, twIn := tw, statusIn := st, sleepIn := n
    code := 0x01#8
    events := [.tw Config.regMac u.writeHead .ok, .sleep tSettle, .tw Config.regMacSum u.writeTrailer .ok,
      .sleep tSettle, .tr Config.regControl [] 2 .ioError] }

/-- The frame was sent and the status read: bit 15 of it decides. -/
def State.statusRead (u : State) (data : Bytes 2) (tw : List TwAnswer) (st : List (TrAnswer 2))
    (n : Nat) : BodyEnd :=
  { u.untouched with
    buf := u.stampAddress.stampTrailer.buf, csum := checksum u.writeHead, stat := statusOf data, twIn := tw
    statusIn := st, sleepIn := n, code := if (statusOf data).getLsbD 15 then 0x07#8 else 0x00#8
    events := [.tw Config.regMac u.writeHead .ok, .sleep tSettle, .tw Config.regMacSum u.writeTrailer .ok,
      .sleep tSettle, .tr Config.regControl [] 2 (.ok data)] }

section writeRuns
variable {u : State} {tw : List TwAnswer} {st : List (TrAnswer 2)} {n : Nat}

/-- The one step of a body whose head was not sent. -/
theorem State.bodyRuns_headLost (hph : u.ph = .wFrame) (htw : u.twIn = .ioError :: tw) :
    u.BodyRuns 1 (u.headLost tw) := fun k => State.after_succ k (step_of_wFrame_ioError hph htw)

theorem State.bodyRuns_trailerLost (hph : u.ph = .wFrame) (htw : u.twIn = .ok :: .ioError :: tw)
    (hsleep : u.sleepIn = n + 1) : u.BodyRuns 3 (u.trailerLost tw n) :=
  fun k => State.after_frame_ioError k hph htw hsleep

theorem State.bodyRuns_statusLost (hph : u.ph = .wFrame) (htw : u.twIn = .ok :: .ok :: tw)
    (hst : u.statusIn = .ioError :: st) (hsleep : u.sleepIn = n + 2) : u.BodyRuns 5 (u.statusLost tw st n) := by
  intro k
  rw [State.after_frame (k + 1) hph htw hsleep]
  refine (State.after_succ k (step_of_wStat_ioError (st := st) rfl ?_)).trans ?_
  · exact hst
  simp only [State.leave, State.statusLost, State.untouched, List.append_assoc, List.cons_append, List.nil_append]

theorem State.bodyRuns_statusRead {data : Bytes 2} (hph : u.ph = .wFrame) (htw : u.twIn = .ok :: .ok :: tw)
    (hst : u.statusIn = .ok data :: st) (hsleep : u.sleepIn = n + 2) :
    u.BodyRuns 5 (u.statusRead data tw st n) := by
  intro k
  rw [State.after_frame (k + 1) hph htw hsleep]
  refine (State.after_succ k ((writeStatusPhase _ st data ?_).1 ?_)).trans ?_
  · rfl
  · exact hst
  simp only [State.leave, State.statusRead, State.untouched, List.append_assoc, List.cons_append, List.nil_append,
    getLsbD_15_iff]

theorem State.writeEnds_headLost : u.WriteEnds (u.headLost tw) := by
  obtain ⟨⟨h0, h1⟩, hkept, hpayload⟩ :=
    State.headStored_bytes (s := u) (t := u.leave (u.headLost tw)) rfl rfl
  exact ⟨⟨h0, h1, .inl ⟨rfl, rfl, hkept, rfl⟩⟩, hpayload, rfl, rfl⟩

theorem State.writeEnds_trailerLost (hargs : u.argsInRange) : u.WriteEnds (u.trailerLost tw n) := by
  obtain ⟨⟨h0, h1⟩, hwritten, hpayload⟩ :=
    State.framed_bytes (s := u) (t := u.leave (u.trailerLost tw n)) hargs rfl rfl
  exact ⟨⟨h0, h1, .inr (.inl ⟨rfl, rfl, hwritten, rfl⟩)⟩, hpayload, rfl, rfl⟩

theorem State.writeEnds_statusLost (hargs : u.argsInRange) : u.WriteEnds (u.statusLost tw st n) := by
  obtain ⟨⟨h0, h1⟩, hwritten, hpayload⟩ :=
    State.framed_bytes (s := u) (t := u.leave (u.statusLost tw st n)) hargs rfl rfl
  exact ⟨⟨h0, h1, .inr (.inr (.inl ⟨rfl, rfl, hwritten, rfl⟩))⟩, hpayload, rfl, rfl⟩

theorem State.writeEnds_statusRead {data : Bytes 2} (hargs : u.argsInRange) :
    u.WriteEnds (u.statusRead data tw st n) := by
  obtain ⟨⟨h0, h1⟩, hwritten, hpayload⟩ :=
    State.framed_bytes (s := u) (t := u.leave (u.statusRead data tw st n)) hargs rfl rfl
  exact ⟨⟨h0, h1, .inr (.inr (.inr ⟨data, rfl, rfl, hwritten, rfl⟩))⟩, hpayload, rfl, rfl⟩

end writeRuns

/-- With its answers to come, the body of a write runs to one of its four ends within five steps (R157). -/
theorem State.exists_writeEnds {u : State} (hph : u.ph = .wFrame) (hargs : u.argsInRange)
    (htw : 2 ≤ u.twIn.length) (hst : 1 ≤ u.statusIn.length) (hsleep : 2 ≤ u.sleepIn) :
    ∃ n r, n ≤ 5 ∧ u.BodyRuns n r ∧ u.WriteEnds r := by
  obtain ⟨m, hm⟩ := Nat.exists_eq_add_of_le' hsleep
  obtain ⟨a1, a2, tw, htws⟩ : ∃ a1 a2 tw, u.twIn = a1 :: a2 :: tw := by
    rcases htws : u.twIn with _ | ⟨a1, _ | ⟨a2, tw⟩⟩ <;> simp_all
  obtain ⟨a3, st, hsts⟩ := List.exists_cons_of_length_pos hst
  cases a1 with
  | ioError => exact ⟨1, _, by decide, State.bodyRuns_headLost hph htws, State.writeEnds_headLost⟩
  | ok =>
    cases a2 with
    | ioError =>
      exact ⟨3, _, by decide, State.bodyRuns_trailerLost hph htws hm, State.writeEnds_trailerLost hargs⟩
    | ok =>
      cases a3 with
      | ioError =>
        exact ⟨5, _, le_rfl, State.bodyRuns_statusLost hph htws hsts hm, State.writeEnds_statusLost hargs⟩
      | ok data =>
        exact ⟨5, _, le_rfl, State.bodyRuns_statusRead hph htws hsts hm, State.writeEnds_statusRead hargs⟩

end writeEnds

/-! ### The unseal and the restoration around a body (R141, R142, R155, R156) -/

/-- The state in which the body starts: after the entry (R141), and after the unseal if one was due (R142). -/
def State.bodyStart (s : State) (body : Phase) (mode : SecMode) (chg : Bool) (q : List SecAnswer)
    (h : List Event) : State :=
  { s with
    rerr := 0x00#8, orig := s.secmode, e := 0x00#8, hostWords := s.hostWords.tail, ph := body, secmode := mode
    chg := chg, secIn := q, history := h }

/-- The state after the entry and an unseal that failed (R142). -/
def State.unsealFailed (s : State) (c : ErrCode) (q : List SecAnswer) : State :=
  { s with
    rerr := 0x00#8, orig := s.secmode, chg := false, e := 0x00#8, hostWords := s.hostWords.tail, res := c.code
    ph := .idle, secIn := q, history := s.history ++ [.secreq .unsealed (.err c)] }

/-- The state after a body that ended in `r`, its restoration answered: RERR has the restoration's code, and RES the
body's if that failed. -/
def State.restored (u : State) (r : BodyEnd) (mode : SecMode) (rerr : Byte) (q : List SecAnswer)
    (events : List Event) : State :=
  { u.leave r with
    secmode := mode, rerr := rerr, res := if r.code = 0x00#8 then rerr else r.code, ph := .idle, secIn := q
    history := events }

/-- A body without an unseal before it ends without a restoration after it (R155). -/
theorem State.step_leave_of_not_chg {u : State} (r : BodyEnd) (hchg : u.chg = false) :
    step (u.leave r) = .next (u.restored r u.secmode u.rerr u.secIn (u.history ++ r.events)) :=
  (restorationPhase (u.leave r) [] .ok rfl).1 hchg

/-- A body after an unseal ends with the re-seal, whose answer gives RERR and decides the mode (R155, R156). -/
theorem State.step_leave_of_chg {u : State} {a : SecAnswer} {q : List SecAnswer} (r : BodyEnd) (hchg : u.chg = true)
    (horig : u.orig = .sealed) (hmode : u.secmode = .unsealed) (hq : u.secIn = a :: q) :
    step (u.leave r) = .next (u.restored r (if a.restoreCode = 0x00#8 then .sealed else .unsealed) a.restoreCode q
      (u.history ++ r.events ++ [.secreq .sealed a])) := by
  rw [(restorationPhase (u.leave r) q a rfl).2 hchg hq]
  cases a with
  | ok => simp [State.restored, State.leave, SecAnswer.restoreCode, horig]
  | err c => simp [State.restored, State.leave, SecAnswer.restoreCode, horig, hmode, c.nonzero]

/-- A transfer that entered runs its unseal, if one is due, its body and its restoration. -/
theorem State.transfer_runs {s : State} {sec body : Phase} {m : Nat} {P : BodyEnd → Prop}
    (hph : sec = .wSec ∧ body = .wFrame ∨ sec = .rSec ∧ body = .rAddr) (hargs : s.argsInRange)
    (hmode : s.secmode ≠ .unknown) (hsec : s.secmode = .sealed → 2 ≤ s.secIn.length)
    (hbody : ∀ mode chg q h, ∃ n r, n ≤ m ∧ (s.bodyStart body mode chg q h).BodyRuns n r ∧ P r) :
    (∃ c q, s.secmode = .sealed ∧ (s.enterTransfer sec body).after 1 = .next (s.unsealFailed c q)) ∨
    ∃ n r events rerr chg mode q, n ≤ m + 2 ∧ P r ∧ Wrapped s r.events events rerr ∧
      mode = (if rerr = 0x00#8 then s.secmode else .unsealed) ∧
      (s.enterTransfer sec body).after n = .next ((s.bodyStart body s.secmode chg s.secIn s.history).restored r
        mode rerr q (s.history ++ events)) := by
  by_cases hsealed : s.secmode = .sealed
  · rw [State.enterTransfer_of_sealed _ _ hargs hsealed]
    obtain ⟨a1, a2, q, hq⟩ : ∃ a1 a2 q, s.secIn = a1 :: a2 :: q := by
      have hlen := hsec hsealed
      rcases hq : s.secIn with _ | ⟨a1, _ | ⟨a2, q⟩⟩ <;> simp_all
    have hphase : (s.entered sec).ph = .wSec ∨ (s.entered sec).ph = .rSec := hph.imp And.left And.left
    cases a1 with
    | err c =>
      have hunseal := (implicitUnsealPhase (s.entered sec) (a2 :: q) c).2.2 hphase hq
      exact .inl ⟨c, a2 :: q, hsealed, State.after_succ 0 hunseal⟩
    | ok =>
      obtain ⟨n, r, hn, hrun, hP⟩ := hbody .unsealed true (a2 :: q) (s.history ++ [.secreq .unsealed .ok])
      have hunseal : step (s.entered sec) = .next (s.bodyStart body .unsealed true (a2 :: q)
          (s.history ++ [.secreq .unsealed .ok])) := by
        rcases hph with ⟨rfl, rfl⟩ | ⟨rfl, rfl⟩
        · rw [step_of_wSec rfl, phaseSec_of_ok (s := s.entered .wSec) (rest := a2 :: q) .wFrame hq]
          rfl
        · rw [step_of_rSec rfl, phaseSec_of_ok (s := s.entered .rSec) (rest := a2 :: q) .rAddr hq]
          rfl
      refine .inr ⟨1 + n + 1, r, .secreq .unsealed .ok :: r.events ++ [.secreq .sealed a2], a2.restoreCode,
        true, _, q, by omega, hP, .inr ⟨hsealed, a2, rfl, rfl⟩, rfl, ?_⟩
      rw [State.after_succ _ hunseal, hrun 1,
        State.after_succ 0 (State.step_leave_of_chg (a := a2) (q := q) r rfl hsealed rfl rfl), hsealed]
      simp [State.restored, State.leave, State.bodyStart]
  · have hopen : s.secmode = .unsealed ∨ s.secmode = .fullAccess := by
      cases hm : s.secmode <;> simp_all
    rw [State.enterTransfer_of_unsealed _ _ hargs hopen]
    obtain ⟨n, r, hn, hrun, hP⟩ := hbody s.secmode false s.secIn s.history
    refine .inr ⟨1 + n, r, r.events, 0x00#8, false, s.secmode, s.secIn, by omega, hP,
      .inl ⟨hsealed, rfl, rfl⟩, rfl, ?_⟩
    exact (hrun 1).trans (State.after_succ 0 (State.step_leave_of_not_chg r rfl))

/-! ### Whole writes (R149, R157) -/

/-- What a body leaves does not depend on the modes, the queue and the history that it started with. -/
theorem State.WriteEnds.of_bodyStart {s : State} {mode : SecMode} {chg : Bool} {q : List SecAnswer} {h : List Event}
    {r : BodyEnd} (hends : (s.bodyStart .wFrame mode chg q h).WriteEnds r) : s.WriteEnds r := hends

/-- Settles O40: a write is its entry, the unseal if it is due, one of the four bodies, and the restoration. -/
theorem everyWriteRunIsListed : Obligations.EveryWriteRunIsListed := by
  intro s rest hpres hargs hmode ⟨hsec, htw, hst, hsleep⟩
  have hstart (n : Nat) : s.after (n + 1) = (s.enterTransfer .wSec .wFrame).after n :=
    State.after_succ_of_presents n hpres (exec_xmwrite s)
  have hwords : s.hostWords.tail = rest := by rw [hpres.2, List.tail_cons]
  have hbody (mode chg q h) : ∃ n r, n ≤ 5 ∧ (s.bodyStart .wFrame mode chg q h).BodyRuns n r ∧
      s.WriteEnds r := by
    obtain ⟨n, r, hn, hrun, hends⟩ :=
      State.exists_writeEnds (u := s.bodyStart .wFrame mode chg q h) rfl hargs htw hst hsleep
    exact ⟨n, r, hn, hrun, hends.of_bodyStart⟩
  rcases State.transfer_runs (.inl ⟨rfl, rfl⟩) hargs hmode hsec hbody with
    ⟨c, q, hsealed, hrun⟩ |
    ⟨n, r, events, rerr, chg, mode, q, hn, ⟨hwrite, hpayload, hrlen, hflags⟩, hwrapped, hrestored,
      hrun⟩
  · refine ⟨2, _, _, by decide, (hstart 1).trans hrun, rfl, hwords, rfl, rfl, rfl, rfl, rfl, rfl, rfl, rfl,
      fun j _ _ => rfl, .inl ⟨c, hsealed, rfl, rfl, rfl, hsealed, rfl, rfl, rfl⟩⟩
  · refine ⟨n + 1, _, events, by omega, (hstart n).trans hrun, rfl, hwords, rfl, rfl, rfl, rfl, rfl, rfl, hrlen,
      hflags, hpayload, .inr ⟨r.events, r.code, hwrite.congr ⟨rfl, rfl, rfl⟩, hwrapped, rfl, hrestored⟩⟩

/-- Settles O42: the fourth body without an unseal, and its composed buffer byte by byte. -/
theorem directWriteSendsTheFrame : Obligations.DirectWriteSendsTheFrame := by
  intro s rest data tw st n hpres hargs hmode htw hst hsleep
  have hwords : s.hostWords.tail = rest := by rw [hpres.2, List.tail_cons]
  have hstart : s.after 7 = (s.entered .wFrame).after 6 := by
    rw [State.after_succ_of_presents 6 hpres (exec_xmwrite s), State.enterTransfer_of_unsealed _ _ hargs hmode]
  have hbody : (s.entered .wFrame).BodyRuns 5 ((s.entered .wFrame).statusRead data tw st n) :=
    State.bodyRuns_statusRead rfl htw hst hsleep
  have hfinish := State.after_succ 0
    (State.step_leave_of_not_chg (u := s.entered .wFrame) ((s.entered .wFrame).statusRead data tw st n) rfl)
  have hbyte := s.stampAddress_stampTrailer_bufByte
  have hlen := s.lengthByte_toNat (s.argsOk_iff_argsInRange.mpr hargs)
  refine ⟨_, hstart.trans ((hbody 1).trans hfinish), hbyte 0, hbyte 1, hbyte 34, ?_, ?_, ?_⟩
  · exact (congrArg BitVec.toNat (hbyte 35)).trans hlen
  · intro j h0 h1 h34 h35
    refine (hbyte j).trans ?_
    rw [if_neg h35, if_neg h34, if_neg h1, if_neg h0]
  · simp only [State.restored, State.leave, State.statusRead, State.untouched, State.entered, hwords, hpres.1]
    cases (statusOf data).getLsbD 15 <;> rfl

/-! ### The body of a read (R150 to R152) -/

section readBody
variable {s t u : State} {tw : List TwAnswer} {fr : List (TrAnswer 36)}

/-- R_FRAME without a frame. -/
theorem step_of_rFrame_ioError (hph : u.ph = .rFrame) (hfr : u.frameIn = .ioError :: fr) :
    step u = .next { u with
      ph := .xRest, e := 0x01#8, frameIn := fr
      history := u.history ++ [.tr Config.regMac [] 36 .ioError] } := by
  rw [step_of_rFrame hph, phaseRFrame_of_ioError hfr, State.leaveBody_eq]
  rfl

/-- R_FRAME with a frame. -/
theorem step_of_rFrame_ok {data : Bytes 36} (hph : u.ph = .rFrame) (hfr : u.frameIn = .ok data :: fr) :
    step u = .next { u with
      ph := .rVal, buf := cellsOf data.bytes, frameIn := fr
      history := u.history ++ [.tr Config.regMac [] 36 (.ok data)] } := by
  rw [step_of_rFrame hph, phaseRFrame_of_ok hfr]
  rfl

/-! #### The validation of a received frame, in the frame's own terms (R134, R152) -/

/-- CSUM after the validation: the frame's checksum, if the validation came to compute it. -/
def State.receivedCsum (s : State) (data : List Byte) : Byte :=
  if s.receivedEcho data ∧ receivedLengthOk data then receivedSum data else s.csum

/-- FLAGS after the validation: LENBAD is set if it ended at the length byte. -/
def State.receivedFlags (s : State) (data : List Byte) : BitVec 2 :=
  if s.receivedEcho data ∧ ¬ receivedLengthOk data then s.flags ||| 2#2 else s.flags

/-- RLEN after the validation: the effective length, if the frame passed. -/
def State.receivedRlen (s : State) (data : List Byte) : Byte :=
  if s.verdict data = 0x00#8 then BitVec.ofNat 8 (min (receivedL data - 4) s.len.toNat) else s.rlen

section verdict
variable {data : List Byte}

theorem State.verdict_of_not_echo (h : ¬ s.receivedEcho data) : s.verdict data = 0x05#8 := if_pos h

theorem State.verdict_of_not_length (hecho : s.receivedEcho data) (h : ¬ receivedLengthOk data) :
    s.verdict data = 0x06#8 := by
  rw [State.verdict, if_neg (not_not_intro hecho), if_pos h]

theorem State.verdict_of_sum_ne (hecho : s.receivedEcho data) (hlen : receivedLengthOk data)
    (h : receivedSum data ≠ data.getD 34 0#8) : s.verdict data = 0x06#8 := by
  rw [State.verdict, if_neg (not_not_intro hecho), if_neg (not_not_intro hlen), if_pos h]

theorem State.verdict_of_sum_eq (hecho : s.receivedEcho data) (hlen : receivedLengthOk data)
    (h : receivedSum data = data.getD 34 0#8) : s.verdict data = 0x00#8 := by
  rw [State.verdict, if_neg (not_not_intro hecho), if_neg (not_not_intro hlen), if_neg (not_not_intro h)]

end verdict

section loaded
variable {data : Bytes 36} (hbuf : u.buf = cellsOf data.bytes)
include hbuf

theorem State.bufByte_of_loaded {i : Nat} (hi : i < 36) : u.bufByte i = data.bytes.getD i 0#8 := by
  rw [← u.loadBuf_bufByte data i hi, State.bufByte, hbuf, State.bufByte, State.loadBuf_buf]

theorem State.echoOk_iff_of_loaded : u.echoOk ↔ u.receivedEcho data.bytes := by
  rw [State.echoOk, State.bufByte_of_loaded hbuf (by decide), State.bufByte_of_loaded hbuf (by decide)]

theorem State.frameL_of_loaded : u.frameL = receivedL data.bytes := by
  rw [State.frameL, State.bufByte_of_loaded hbuf (by decide), receivedL]

theorem State.lengthOk_iff_of_loaded : u.lengthOk ↔ receivedLengthOk data.bytes := by
  rw [State.lengthOk, State.frameL_of_loaded hbuf]

/-- The covered range, as the buffer's bytes and as the frame's own. -/
theorem State.frameSum_of_loaded (hlen : receivedLengthOk data.bytes) : u.frameSum = receivedSum data.bytes := by
  rw [State.frameSum, State.frameL_of_loaded hbuf, receivedSum]
  congr 1
  refine List.ext_getElem (by simp [data.length_eq]; omega) fun i hi _ => ?_
  have hlt : i < 36 := by simp at hi; omega
  simp [State.bufByte_of_loaded hbuf hlt, data.length_eq, hlt]

/-- R_VAL on a received frame, as the rules say of the frame (R152). -/
theorem step_of_rVal_loaded (hph : u.ph = .rVal) :
    step u = .next { u with
      csum := u.receivedCsum data.bytes, flags := u.receivedFlags data.bytes, rlen := u.receivedRlen data.bytes
      e := u.verdict data.bytes, ph := .xRest } := by
  obtain ⟨hnoEcho, hnoLength, hnoSum, hpass⟩ := readValidationPhase u hph
  by_cases hecho : u.receivedEcho data.bytes
  · have hecho' := (State.echoOk_iff_of_loaded hbuf).mpr hecho
    by_cases hlen : receivedLengthOk data.bytes
    · have hlen' := (State.lengthOk_iff_of_loaded hbuf).mpr hlen
      have hsum := State.frameSum_of_loaded hbuf hlen
      have h34 := State.bufByte_of_loaded hbuf (i := 34) (by decide)
      rw [State.receivedCsum, if_pos ⟨hecho, hlen⟩, State.receivedFlags, if_neg (fun h => h.2 hlen),
        State.receivedRlen]
      by_cases hok : receivedSum data.bytes = data.bytes.getD 34 0#8
      · rw [State.verdict_of_sum_eq hecho hlen hok, if_pos rfl, hpass hecho' hlen' (by rw [hsum, h34, hok]), hsum,
          State.effectiveLength, State.frameL_of_loaded hbuf]
      · rw [State.verdict_of_sum_ne hecho hlen hok, if_neg (by decide),
          hnoSum hecho' hlen' (by rwa [hsum, h34]), hsum]
    · rw [State.receivedCsum, if_neg (fun h => hlen h.2), State.receivedFlags, if_pos ⟨hecho, hlen⟩,
        State.receivedRlen, State.verdict_of_not_length hecho hlen, if_neg (by decide),
        hnoLength hecho' (mt (State.lengthOk_iff_of_loaded hbuf).mp hlen)]
  · rw [State.receivedCsum, if_neg (fun h => hecho h.1), State.receivedFlags, if_neg (fun h => hecho h.1),
      State.receivedRlen, State.verdict_of_not_echo hecho, if_neg (by decide),
      hnoEcho (mt (State.echoOk_iff_of_loaded hbuf).mp hecho)]

end loaded

/-- What the end `r` of a read's body leaves (R157). -/
def State.ReadEnds (s : State) (r : BodyEnd) : Prop :=
  ReadBody s (s.leave r) r.events r.code ∧ r.stat = s.stat ∧ (s.leave r).flagM = s.flagM

/-- The address was not sent. -/
def State.addressLost (u : State) (tw : List TwAnswer) : BodyEnd :=
  { u.untouched with
    twIn := tw, code := 0x01#8, events := [.tw Config.regMac [u.lowAddr, u.highAddr] .ioError] }

/-- The address was sent, and no frame received. -/
def State.frameLost (u : State) (tw : List TwAnswer) (fr : List (TrAnswer 36)) : BodyEnd :=
  { u.untouched with
    twIn := tw, frameIn := fr, code := 0x01#8
    events := [.tw Config.regMac [u.lowAddr, u.highAddr] .ok, .tr Config.regMac [] 36 .ioError] }

/-- A frame was received: its validation leaves CSUM, RLEN, FLAGS and the code as the rules say of the frame
(R134). -/
def State.frameValidated (u : State) (data : Bytes 36) (tw : List TwAnswer) (fr : List (TrAnswer 36)) : BodyEnd :=
  { u.untouched with
    buf := cellsOf data.bytes, csum := u.receivedCsum data.bytes, rlen := u.receivedRlen data.bytes
    flags := u.receivedFlags data.bytes, twIn := tw, frameIn := fr, code := u.verdict data.bytes
    events := [.tw Config.regMac [u.lowAddr, u.highAddr] .ok, .tr Config.regMac [] 36 (.ok data)] }

theorem State.bodyRuns_addressLost (hph : u.ph = .rAddr) (htw : u.twIn = .ioError :: tw) :
    u.BodyRuns 1 (u.addressLost tw) := fun k => State.after_succ k ((readAddressPhase u tw hph).2 htw)

theorem State.bodyRuns_frameLost (hph : u.ph = .rAddr) (htw : u.twIn = .ok :: tw)
    (hfr : u.frameIn = .ioError :: fr) : u.BodyRuns 2 (u.frameLost tw fr) := by
  intro k
  rw [State.after_succ (k + 1) ((readAddressPhase u tw hph).1 htw)]
  refine (State.after_succ k (step_of_rFrame_ioError (fr := fr) rfl ?_)).trans ?_
  · exact hfr
  · simp only [State.leave, State.frameLost, State.untouched, List.append_assoc, List.cons_append, List.nil_append]

theorem State.bodyRuns_frameValidated {data : Bytes 36} (hph : u.ph = .rAddr) (htw : u.twIn = .ok :: tw)
    (hfr : u.frameIn = .ok data :: fr) : u.BodyRuns 3 (u.frameValidated data tw fr) := by
  intro k
  rw [State.after_succ (k + 2) ((readAddressPhase u tw hph).1 htw)]
  refine (State.after_succ (k + 1) (step_of_rFrame_ok (data := data) (fr := fr) rfl ?_)).trans ?_
  · exact hfr
  refine (State.after_succ k (step_of_rVal_loaded (data := data) rfl rfl)).trans ?_
  simp only [State.leave, State.frameValidated, State.untouched, List.append_assoc, List.cons_append,
    List.nil_append]
  rfl

/-- Setting LENBAD leaves M (R26). -/
theorem or_two_getLsbD (f : BitVec 2) : (f ||| 2#2).getLsbD 0 = f.getLsbD 0 ∧ (f ||| 2#2).getLsbD 1 = true := by
  revert f
  decide

theorem State.readEnds_addressLost (hrlen : u.rlen = 0x00#8) (hlenbad : u.flagLenbad = false) :
    u.ReadEnds (u.addressLost tw) :=
  ⟨.inl ⟨rfl, rfl, rfl, rfl, hrlen, hlenbad⟩, rfl, rfl⟩

theorem State.readEnds_frameLost (hrlen : u.rlen = 0x00#8) (hlenbad : u.flagLenbad = false) :
    u.ReadEnds (u.frameLost tw fr) :=
  ⟨.inr (.inl ⟨rfl, rfl, rfl, rfl, hrlen, hlenbad⟩), rfl, rfl⟩

section received
variable {data : List Byte}

theorem State.receivedFlags_m : (u.receivedFlags data).getLsbD 0 = u.flagM := by
  unfold State.receivedFlags
  split
  · exact (or_two_getLsbD u.flags).1
  · rfl

theorem State.receivedFlags_lenbad (hlenbad : u.flagLenbad = false) :
    (u.receivedFlags data).getLsbD 1 = true ↔ u.receivedEcho data ∧ ¬ receivedLengthOk data := by
  unfold State.receivedFlags
  split
  next h => exact iff_of_true (or_two_getLsbD u.flags).2 h
  next h => exact iff_of_false (ne_true_of_eq_false hlenbad) h

/-- The effective length is at most LEN, so RLEN holds it without wrapping. -/
theorem State.receivedRlen_toNat (hrlen : u.rlen = 0x00#8) : (u.receivedRlen data).toNat =
    if u.verdict data = 0x00#8 then min (receivedL data - 4) u.len.toNat else 0 := by
  unfold State.receivedRlen
  split
  · have hlen := u.len.isLt
    rw [BitVec.toNat_ofNat, Nat.mod_eq_of_lt (by omega)]
  · rw [hrlen]
    rfl

end received

theorem State.readEnds_frameValidated {data : Bytes 36} (hrlen : u.rlen = 0x00#8) (hlenbad : u.flagLenbad = false) :
    u.ReadEnds (u.frameValidated data tw fr) := by
  refine ⟨.inr (.inr ⟨data, rfl, rfl, fun i hi => ?_, rfl, State.receivedFlags_lenbad hlenbad,
    State.receivedRlen_toNat hrlen⟩), rfl, State.receivedFlags_m⟩
  have hlt : i < data.bytes.length := data.length_eq.symm ▸ hi
  rw [State.bufByte_of_loaded (u := u.leave (u.frameValidated data tw fr)) rfl hi, List.getElem?_eq_getElem hlt,
    List.getD_eq_getElem _ _ hlt]

/-- With its answers to come, the body of a read runs to one of its three ends within three steps (R157). -/
theorem State.exists_readEnds (hph : u.ph = .rAddr) (hrlen : u.rlen = 0x00#8) (hlenbad : u.flagLenbad = false)
    (htw : 1 ≤ u.twIn.length) (hfr : 1 ≤ u.frameIn.length) :
    ∃ n r, n ≤ 3 ∧ u.BodyRuns n r ∧ u.ReadEnds r := by
  obtain ⟨a1, tw, htws⟩ := List.exists_cons_of_length_pos htw
  obtain ⟨a2, fr, hfrs⟩ := List.exists_cons_of_length_pos hfr
  cases a1 with
  | ioError =>
    exact ⟨1, _, by decide, State.bodyRuns_addressLost hph htws, State.readEnds_addressLost hrlen hlenbad⟩
  | ok =>
    cases a2 with
    | ioError =>
      exact ⟨2, _, by decide, State.bodyRuns_frameLost hph htws hfrs, State.readEnds_frameLost hrlen hlenbad⟩
    | ok data =>
      exact ⟨3, _, le_rfl, State.bodyRuns_frameValidated hph htws hfrs,
        State.readEnds_frameValidated hrlen hlenbad⟩

/-- The body of a read is a matter of the buffer, CSUM, RLEN and FLAGS alone. -/
theorem ReadBody.congr {t' : State} {body : List Event} {code : Byte} (h : ReadBody s t body code)
    (heq : t'.buf = t.buf ∧ t'.csum = t.csum ∧ t'.rlen = t.rlen ∧ t'.flags = t.flags) :
    ReadBody s t' body code := by
  obtain ⟨hbuf, hcsum, hrlen, hflags⟩ := heq
  simpa only [ReadBody, State.noFrameRead, State.frameRead, State.bufByte, State.flagLenbad, hbuf, hcsum, hrlen,
    hflags] using h

end readBody

/-! ### Whole reads (R154, R157) -/

/-- What a body leaves does not depend on the modes, the queue and the history that it started with. -/
theorem State.ReadEnds.of_bodyStart {s : State} {mode : SecMode} {chg : Bool} {q : List SecAnswer} {h : List Event}
    {r : BodyEnd} (hends : (s.bodyStart .rAddr mode chg q h).ReadEnds r) : s.ReadEnds r := hends

/-- Settles O41: a read is its entry, which clears RLEN and LENBAD, the unseal if it is due, one of the three
bodies, and the restoration. -/
theorem everyReadRunIsListed : Obligations.EveryReadRunIsListed := by
  intro s rest hpres hargs hmode ⟨hsec, htw, hfr⟩
  have hstart (n : Nat) : s.after (n + 1) = (s.clearResult.enterTransfer .rSec .rAddr).after n :=
    State.after_succ_of_presents n hpres (exec_xmread s)
  have hwords : s.hostWords.tail = rest := by rw [hpres.2, List.tail_cons]
  have hbody (mode chg q h) : ∃ n r, n ≤ 3 ∧ (s.clearResult.bodyStart .rAddr mode chg q h).BodyRuns n r ∧
      s.clearResult.ReadEnds r := by
    obtain ⟨n, r, hn, hrun, hends⟩ :=
      State.exists_readEnds (u := s.clearResult.bodyStart .rAddr mode chg q h) rfl rfl
        s.clearResult_flagLenbad htw hfr
    exact ⟨n, r, hn, hrun, hends.of_bodyStart⟩
  rcases State.transfer_runs (s := s.clearResult) (.inr ⟨rfl, rfl⟩) hargs hmode hsec hbody with
    ⟨c, q, hsealed, hrun⟩ |
    ⟨n, r, events, rerr, chg, mode, q, hn, ⟨hread, hstat, hflagM⟩, hwrapped, hrestored, hrun⟩
  · exact ⟨2, _, _, by decide, (hstart 1).trans hrun, rfl, hwords, rfl, rfl, rfl, rfl, rfl, rfl, rfl,
      s.clearResult_flagM, .inl ⟨c, hsealed, rfl, rfl, rfl, hsealed, rfl, rfl, rfl, s.clearResult_flagLenbad⟩⟩
  · exact ⟨n + 1, _, events, by omega, (hstart n).trans hrun, rfl, hwords, rfl, rfl, rfl, rfl, rfl, rfl, hstat,
      hflagM.trans s.clearResult_flagM,
      .inr ⟨r.events, r.code, ReadBody.congr (s := s.clearResult) hread ⟨rfl, rfl, rfl, rfl⟩,
        hwrapped, rfl, hrestored⟩⟩

end Sys2Proof.Machine
end
